-- ==== Sys2Proof/Word.lean ====
section
/-! DEFINITION. The word types: a byte of the trace stream, a 32-bit instruction word or address, a 64-bit half
of a GS beat (00_scope R7, R8). -/

namespace Sys2Proof

/-- One byte of the trace stream or of an image (R7). -/
abbrev Byte := BitVec 8

/-- A u32: an instruction word, an address given to IDEC, a word of a LOADOP or STOREOP payload (R7, R11). -/
abbrev Word := BitVec 32

/-- A u64: the domain of bitfield extraction and a half of a GS beat (R7, R8). -/
abbrev DWord := BitVec 64

end Sys2Proof
end

