-- ==== Sys2Proof/Machine/Bfx.lean ====
section
/-! DEFINITION. BFX, the bitfield extractor (40_bitfield_extract), and the byte-order helpers of 00_scope R12. -/

namespace Sys2Proof

/-- `extract(value, lowBit, highBit)` (R140), computed on unbounded naturals; `none` outside the precondition
`lowBit ≤ highBit ≤ 63`, where BFX returns no value (R143). -/
def extract (value : DWord) (lowBit highBit : Nat) : Option DWord :=
  if lowBit ≤ highBit ∧ highBit ≤ 63 then
    some (BitVec.ofNat 64 (value.toNat / 2 ^ lowBit % 2 ^ (highBit - lowBit + 1)))
  else none

/-- The field of `len` bits from bit `low` up, at its own width: `v[low + len - 1 : low]` of R9. Every caller uses
constant bounds inside BFX's precondition (R146). -/
def bits {n : Nat} (low len : Nat) (v : BitVec n) : BitVec len := v.extractLsb' low len

/-- The little-endian value of a byte string: `Σ bytes[i] * 2^(8i)` (R12). -/
def leNat : List Byte → Nat
  | [] => 0
  | b :: bs => b.toNat + 256 * leNat bs

/-- `LE32` (R12) of the first four bytes given. -/
def le32 (bytes : List Byte) : Word := BitVec.ofNat 32 (leNat (bytes.take 4))

/-- `LE64` (R12) of the first eight bytes given. -/
def le64 (bytes : List Byte) : DWord := BitVec.ofNat 64 (leNat (bytes.take 8))

/-- The `n` bytes whose little-endian value is `v` modulo `2^(8n)`: the encoder's side of R12. -/
def leBytes : Nat → Nat → List Byte
  | 0, _ => []
  | n + 1, v => BitVec.ofNat 8 v :: leBytes n (v / 256)

end Sys2Proof
end

