-- ==== Sys2Proof/Config.lean ====
section
/-! DEFINITION. The implementation parameters of 00_scope R6: those the spec fixes as constants, those the host fixes
before the first call as the record `Params` (R547), and the text function FMT_IMMFLOAT as an opaque constant. -/

namespace Sys2Proof

/-- `PROG_BYTES` (R6): the size of the program-memory image. -/
abbrev progBytes : Nat := 16384

/-- `DATA_BYTES` (R6): the size of the data-memory image. -/
abbrev dataBytes : Nat := 16384

/-- `PROG_WORDS` (R6): `PROG_BYTES / 4`. -/
abbrev progWords : Nat := 4096

/-- `PAIR_BYTES` (R6): the size of an instruction pair. -/
abbrev pairBytes : Nat := 8

/-- `N_RECORDS` (R6): EXH's records, one per 8 bytes of program address. -/
abbrev nRecords : Nat := 2048

/-- `HEADER_BYTES` (R6, R473): bytes skipped at the start of the trace stream. -/
abbrev headerBytes : Nat := 0

/-- The parameters the host fixes before the first call (R6, R547): the six tag bytes (D19), the size of a scalar
register and the index of the program counter (D21), and whether EXH is present (D2). Read-only afterwards (R45). -/
structure Params where
  tagPushSnapshot    : Byte
  tagSetRegisters    : Byte
  tagSetMemory       : Byte
  tagSetInstructions : Byte
  tagLoadOp          : Byte
  tagStoreOp         : Byte
  sregBytes          : Nat
  pcIndex            : Fin 32
  hasExh             : Bool
deriving DecidableEq, Repr

/-- `REGBLOCK_BYTES = 512 + 32 * SREG_BYTES` (R6, R38). -/
def Params.regBlockBytes (p : Params) : Nat := 512 + 32 * p.sregBytes

/-- The six tag bytes, in the order of R118. -/
def Params.tags (p : Params) : List Byte :=
  [p.tagPushSnapshot, p.tagSetRegisters, p.tagSetMemory, p.tagSetInstructions, p.tagLoadOp, p.tagStoreOp]

/-- The constraint of R6: six pairwise distinct tag bytes. DEDUCED: a scalar register holds at least the four bytes that
R35 reads of it (log 13). -/
abbrev Params.ok (p : Params) : Prop := p.tags.Nodup ∧ 4 ≤ p.sregBytes

/-- PRESUMED (log 5, unsafe): the values R6 suggests and the example tag bytes of 95_test_vectors.md. They are the ones
State.reset holds; no rule of the spec gives the OPEN parameters a value. -/
def Params.suggested : Params where
  tagPushSnapshot    := 0x50
  tagSetRegisters    := 0x52
  tagSetMemory       := 0x4D
  tagSetInstructions := 0x49
  tagLoadOp          := 0x4C
  tagStoreOp         := 0x53
  sregBytes          := 16
  pcIndex            := 26
  hasExh             := true

/-- `FMT_IMMFLOAT` (R6, R170, D6), an OPEN parameter: the text of an immediate float literal. Nothing about its values
can be proved (log 6, safe). -/
opaque Config.fmtImmFloat : Word → String

end Sys2Proof
end

