-- ==== Sys2Proof/Syntax.lean ====
section
/-! DEFINITION. The instructions: one constructor for each row of spec/opcode_table.json, in the table's order, with the
operands its row reads (30 R92, R94, R95, R96). An immediate is held as its bits; its signed or unsigned value is taken
where it is formatted (R96). Operand names are the spec's: dest the component mask, fd, fs and ft vector registers, id, is
and it integer registers, fsf and ftf component selectors. -/

namespace Sys2Proof

/-- Which decoder reads an instruction: IDEC the lower or the upper word of a pair (R90), TSR a packet (R118). -/
inductive Slot where
  | lower
  | upper
  | packet
deriving DecidableEq, Repr

inductive Instr where
  -- the first-level upper table UPPER (30 R103, 42 R200 to R247)
  | addx (dest : BitVec 4) (fd fs ft : BitVec 5)
  | addy (dest : BitVec 4) (fd fs ft : BitVec 5)
  | addz (dest : BitVec 4) (fd fs ft : BitVec 5)
  | addw (dest : BitVec 4) (fd fs ft : BitVec 5)
  | subx (dest : BitVec 4) (fd fs ft : BitVec 5)
  | suby (dest : BitVec 4) (fd fs ft : BitVec 5)
  | subz (dest : BitVec 4) (fd fs ft : BitVec 5)
  | subw (dest : BitVec 4) (fd fs ft : BitVec 5)
  | maddx (dest : BitVec 4) (fd fs ft : BitVec 5)
  | maddy (dest : BitVec 4) (fd fs ft : BitVec 5)
  | maddz (dest : BitVec 4) (fd fs ft : BitVec 5)
  | maddw (dest : BitVec 4) (fd fs ft : BitVec 5)
  | msubx (dest : BitVec 4) (fd fs ft : BitVec 5)
  | msuby (dest : BitVec 4) (fd fs ft : BitVec 5)
  | msubz (dest : BitVec 4) (fd fs ft : BitVec 5)
  | msubw (dest : BitVec 4) (fd fs ft : BitVec 5)
  | maxx (dest : BitVec 4) (fd fs ft : BitVec 5)
  | maxy (dest : BitVec 4) (fd fs ft : BitVec 5)
  | maxz (dest : BitVec 4) (fd fs ft : BitVec 5)
  | maxw (dest : BitVec 4) (fd fs ft : BitVec 5)
  | minix (dest : BitVec 4) (fd fs ft : BitVec 5)
  | miniy (dest : BitVec 4) (fd fs ft : BitVec 5)
  | miniz (dest : BitVec 4) (fd fs ft : BitVec 5)
  | miniw (dest : BitVec 4) (fd fs ft : BitVec 5)
  | mulx (dest : BitVec 4) (fd fs ft : BitVec 5)
  | muly (dest : BitVec 4) (fd fs ft : BitVec 5)
  | mulz (dest : BitVec 4) (fd fs ft : BitVec 5)
  | mulw (dest : BitVec 4) (fd fs ft : BitVec 5)
  | mulq (dest : BitVec 4) (fd fs : BitVec 5)
  | maxi (dest : BitVec 4) (fd fs : BitVec 5)
  | muli (dest : BitVec 4) (fd fs : BitVec 5)
  | minii (dest : BitVec 4) (fd fs : BitVec 5)
  | addq (dest : BitVec 4) (fd fs : BitVec 5)
  | maddq (dest : BitVec 4) (fd fs : BitVec 5)
  | addi (dest : BitVec 4) (fd fs : BitVec 5)
  | maddi (dest : BitVec 4) (fd fs : BitVec 5)
  | subq (dest : BitVec 4) (fd fs : BitVec 5)
  | msubq (dest : BitVec 4) (fd fs : BitVec 5)
  | subi (dest : BitVec 4) (fd fs : BitVec 5)
  | msubi (dest : BitVec 4) (fd fs : BitVec 5)
  | add (dest : BitVec 4) (fd fs ft : BitVec 5)
  | madd (dest : BitVec 4) (fd fs ft : BitVec 5)
  | mul (dest : BitVec 4) (fd fs ft : BitVec 5)
  | max (dest : BitVec 4) (fd fs ft : BitVec 5)
  | sub (dest : BitVec 4) (fd fs ft : BitVec 5)
  | msub (dest : BitVec 4) (fd fs ft : BitVec 5)
  | opmsub (dest : BitVec 4) (fd fs ft : BitVec 5)
  | mini (dest : BitVec 4) (fd fs ft : BitVec 5)
  -- table FD_00 (30 R104, 43 R248 to R259)
  | addax (dest : BitVec 4) (fs ft : BitVec 5)
  | subax (dest : BitVec 4) (fs ft : BitVec 5)
  | maddax (dest : BitVec 4) (fs ft : BitVec 5)
  | msubax (dest : BitVec 4) (fs ft : BitVec 5)
  | itof0 (dest : BitVec 4) (ft fs : BitVec 5)
  | ftoi0 (dest : BitVec 4) (ft fs : BitVec 5)
  | mulax (dest : BitVec 4) (fs ft : BitVec 5)
  | mulaq (dest : BitVec 4) (fs : BitVec 5)
  | addaq (dest : BitVec 4) (fs : BitVec 5)
  | subaq (dest : BitVec 4) (fs : BitVec 5)
  | adda (dest : BitVec 4) (fs ft : BitVec 5)
  | suba (dest : BitVec 4) (fs ft : BitVec 5)
  -- table FD_01 (30 R104, 43 R260 to R271)
  | adday (dest : BitVec 4) (fs ft : BitVec 5)
  | subay (dest : BitVec 4) (fs ft : BitVec 5)
  | madday (dest : BitVec 4) (fs ft : BitVec 5)
  | msubay (dest : BitVec 4) (fs ft : BitVec 5)
  | itof4 (dest : BitVec 4) (ft fs : BitVec 5)
  | ftoi4 (dest : BitVec 4) (ft fs : BitVec 5)
  | mulay (dest : BitVec 4) (fs ft : BitVec 5)
  | abs (dest : BitVec 4) (ft fs : BitVec 5)
  | maddaq (dest : BitVec 4) (fs : BitVec 5)
  | msubaq (dest : BitVec 4) (fs : BitVec 5)
  | madda (dest : BitVec 4) (fs ft : BitVec 5)
  | msuba (dest : BitVec 4) (fs ft : BitVec 5)
  -- table FD_10 (30 R104, 43 R272 to R283)
  | addaz (dest : BitVec 4) (fs ft : BitVec 5)
  | subaz (dest : BitVec 4) (fs ft : BitVec 5)
  | maddaz (dest : BitVec 4) (fs ft : BitVec 5)
  | msubaz (dest : BitVec 4) (fs ft : BitVec 5)
  | itof12 (dest : BitVec 4) (ft fs : BitVec 5)
  | ftoi12 (dest : BitVec 4) (ft fs : BitVec 5)
  | mulaz (dest : BitVec 4) (fs ft : BitVec 5)
  | mulai (dest : BitVec 4) (fs : BitVec 5)
  | addai (dest : BitVec 4) (fs : BitVec 5)
  | subai (dest : BitVec 4) (fs : BitVec 5)
  | mula (dest : BitVec 4) (fs ft : BitVec 5)
  | opmula (dest : BitVec 4) (fs ft : BitVec 5)
  -- table FD_11 (30 R104, 43 R284 to R294)
  | addaw (dest : BitVec 4) (fs ft : BitVec 5)
  | subaw (dest : BitVec 4) (fs ft : BitVec 5)
  | maddaw (dest : BitVec 4) (fs ft : BitVec 5)
  | msubaw (dest : BitVec 4) (fs ft : BitVec 5)
  | itof15 (dest : BitVec 4) (ft fs : BitVec 5)
  | ftoi15 (dest : BitVec 4) (ft fs : BitVec 5)
  | mulaw (dest : BitVec 4) (fs ft : BitVec 5)
  | clipw (dest : BitVec 4) (fs ft : BitVec 5)
  | maddai (dest : BitVec 4) (fs : BitVec 5)
  | msubai (dest : BitVec 4) (fs : BitVec 5)
  | nop
  -- the first-level lower table LOWER (30 R100, 44 R300 to R327)
  | lq (dest : BitVec 4) (ft : BitVec 5) (imm11 : BitVec 11) (is : BitVec 4)
  | sq (dest : BitVec 4) (fs : BitVec 5) (imm11 : BitVec 11) (it : BitVec 4)
  | ilw (dest it : BitVec 4) (imm11 : BitVec 11) (is : BitVec 4)
  | isw (dest it : BitVec 4) (imm11 : BitVec 11) (is : BitVec 4)
  | iaddiu (it is : BitVec 4) (imm15 : BitVec 15)
  | isubiu (it is : BitVec 4) (imm15 : BitVec 15)
  | fceq (imm24 : BitVec 24)
  | fcset (imm24 : BitVec 24)
  | fcand (imm24 : BitVec 24)
  | fcor (imm24 : BitVec 24)
  | fseq (it : BitVec 4) (imm12 : BitVec 12)
  | fsset (imm12 : BitVec 12)
  | fsand (it : BitVec 4) (imm12 : BitVec 12)
  | fsor (it : BitVec 4) (imm12 : BitVec 12)
  | fmeq (it is : BitVec 4)
  | fmand (it is : BitVec 4)
  | fmor (it is : BitVec 4)
  | fcget (it : BitVec 4)
  | b (imm11 : BitVec 11)
  | bal (it : BitVec 4) (imm11 : BitVec 11)
  | jr (is : BitVec 4)
  | jalr (it is : BitVec 4)
  | ibeq (it is : BitVec 4) (imm11 : BitVec 11)
  | ibne (it is : BitVec 4) (imm11 : BitVec 11)
  | ibltz (is : BitVec 4) (imm11 : BitVec 11)
  | ibgtz (is : BitVec 4) (imm11 : BitVec 11)
  | iblez (is : BitVec 4) (imm11 : BitVec 11)
  | ibgez (is : BitVec 4) (imm11 : BitVec 11)
  -- table LOWEROP (30 R101, 44 R328 to R332)
  | iadd (id is it : BitVec 4)
  | isub (id is it : BitVec 4)
  | iaddi (it is : BitVec 4) (imm5 : BitVec 5)
  | iand (id is it : BitVec 4)
  | ior (id is it : BitVec 4)
  -- table T3_00 (30 R102, 45 R333 to R344)
  | move (dest : BitVec 4) (ft fs : BitVec 5)
  | lqi (dest : BitVec 4) (ft : BitVec 5) (is : BitVec 4)
  | div (fs : BitVec 5) (fsf : BitVec 2) (ft : BitVec 5) (ftf : BitVec 2)
  | mtir (it : BitVec 4) (fs : BitVec 5) (fsf : BitVec 2)
  | rnext (dest : BitVec 4) (ft : BitVec 5)
  | mfp (dest : BitVec 4) (ft : BitVec 5)
  | xtop (it : BitVec 4)
  | xgkick (is : BitVec 4)
  | esadd (fs : BitVec 5)
  | eatanxy (fs : BitVec 5)
  | esqrt (fs : BitVec 5) (fsf : BitVec 2)
  | esin (fs : BitVec 5) (fsf : BitVec 2)
  -- table T3_01 (30 R102, 45 R345 to R354)
  | mr32 (dest : BitVec 4) (ft fs : BitVec 5)
  | sqi (dest : BitVec 4) (fs : BitVec 5) (it : BitVec 4)
  | sqrt (ft : BitVec 5) (ftf : BitVec 2)
  | mfir (dest : BitVec 4) (ft : BitVec 5) (is : BitVec 4)
  | rget (dest : BitVec 4) (ft : BitVec 5)
  | xitop (it : BitVec 4)
  | ersadd (fs : BitVec 5)
  | eatanxz (fs : BitVec 5)
  | ersqrt (fs : BitVec 5) (fsf : BitVec 2)
  | eatan (fs : BitVec 5) (fsf : BitVec 2)
  -- table T3_10 (30 R102, 45 R355 to R362)
  | lqd (dest : BitVec 4) (ft : BitVec 5) (is : BitVec 4)
  | rsqrt (fs : BitVec 5) (fsf : BitVec 2) (ft : BitVec 5) (ftf : BitVec 2)
  | ilwr (dest it is : BitVec 4)
  | rinit (fs : BitVec 5) (fsf : BitVec 2)
  | eleng (fs : BitVec 5)
  | esum (fs : BitVec 5)
  | ercpr (fs : BitVec 5) (fsf : BitVec 2)
  | eexp (fs : BitVec 5) (fsf : BitVec 2)
  -- table T3_11 (30 R102, 45 R363 to R368)
  | sqd (dest : BitVec 4) (fs : BitVec 5) (it : BitVec 4)
  | waitq
  | iswr (dest it is : BitVec 4)
  | rxor (fs : BitVec 5) (fsf : BitVec 2)
  | erleng (fs : BitVec 5)
  | waitp
  -- trace packets (30 R118, 47 R455 to R460); a payload is the packet's bytes after its tag
  | pushsnapshot
  | setregisters (payload : List Byte)
  | setmemory (payload : List Byte)
  | setinstructions (payload : List Byte)
  | loadop (addr size : Word)
  | storeop (addr size : Word)
deriving DecidableEq, Repr

end Sys2Proof
end

