-- ==== Sys2Proof/WellFormed.lean ====
section
/-! DEFINITION. Which instructions are well formed. The operand types of Syntax already hold exactly the values an encoding
admits, so every VU row is well formed, a mask of 0 included (30 R97, conflict C8); a packet is well formed when its
payload has the length its tag fixes (30 R118). -/

namespace Sys2Proof

/-- Well-formedness under a parameter set: the payload lengths of R118. -/
def Instr.wf (p : Params) : Instr → Bool
  | .setregisters payload => payload.length == p.regBlockBytes
  | .setmemory payload => payload.length == dataBytes
  | .setinstructions payload => payload.length == progBytes
  | _ => true

end Sys2Proof
end

