-- ==== Sys2Proof/Decode.lean ====
section
/-! DEFINITION. The decoder, level by level through the 11 dispatch tables (41 R154 to R158, 30 R100 to R104), and over the
trace packets (30 R118, 47 R452 to R454); after it the encoder, from the same layouts (30 R91, R93, R95, R96, R118). Every
opcode value, field position and mnemonic is the one the spec adopts by D3 (UNVERIFIED against the original, log 1). -/

namespace Sys2Proof

/-- What stands where a packet would begin (R452). -/
inductive PacketError where
  /-- The end of the stream (R466). -/
  | endOfStream
  /-- The first byte is none of the six tags (R453). -/
  | badTag (byte : Byte)
  /-- The payload extends past the end of the bytes (R454). -/
  | truncated (tag : Byte) (need left : Nat)
deriving DecidableEq, Repr

/-- Why no instruction is read. -/
inductive DecodeError where
  /-- An empty slot of a dispatch table: the result is the sentinel `Bad` (R105, R159). -/
  | badInstruction
  /-- Fewer than four bytes are left where a word is to be read. -/
  | shortWord
  /-- No packet (R452). -/
  | packet (e : PacketError)
deriving DecidableEq, Repr

/-! ### Fields of a word (R95, R96) -/

/-- Component mask, `w[24:21]` (R95). -/
def Field.dest (w : Word) : BitVec 4 := bits 21 4 w
/-- Vector register, `w[20:16]` (R95). -/
def Field.ft (w : Word) : BitVec 5 := bits 16 5 w
/-- Vector register, `w[15:11]` (R95). -/
def Field.fs (w : Word) : BitVec 5 := bits 11 5 w
/-- Vector register, `w[10:6]` (R95). -/
def Field.fd (w : Word) : BitVec 5 := bits 6 5 w
/-- Integer register, `w[19:16]` (R95). -/
def Field.it (w : Word) : BitVec 4 := bits 16 4 w
/-- Integer register, `w[14:11]` (R95). -/
def Field.is (w : Word) : BitVec 4 := bits 11 4 w
/-- Integer register, `w[9:6]` (R95). -/
def Field.id (w : Word) : BitVec 4 := bits 6 4 w
/-- Broadcast component, `w[1:0]` (R95). -/
def Field.bc (w : Word) : BitVec 2 := bits 0 2 w
/-- Component selector of fs, `w[22:21]` (R95). -/
def Field.fsf (w : Word) : BitVec 2 := bits 21 2 w
/-- Component selector of ft, `w[24:23]` (R95). -/
def Field.ftf (w : Word) : BitVec 2 := bits 23 2 w
/-- The bits of imm5, `w[10:6]` (R96). -/
def Field.imm5 (w : Word) : BitVec 5 := bits 6 5 w
/-- The bits of imm11, `w[10:0]` (R96). -/
def Field.imm11 (w : Word) : BitVec 11 := bits 0 11 w
/-- The bits of imm12, `w[21]` above `w[10:0]` (R96). -/
def Field.imm12 (w : Word) : BitVec 12 := bits 21 1 w ++ bits 0 11 w
/-- The bits of imm15, `w[24:21]` above `w[10:0]` (R96). -/
def Field.imm15 (w : Word) : BitVec 15 := bits 21 4 w ++ bits 0 11 w
/-- The bits of imm24, `w[23:0]` (R96). -/
def Field.imm24 (w : Word) : BitVec 24 := bits 0 24 w

/-! ### The dispatch tables: slot and row; every slot not listed is empty (R105) -/

/-- `UPPER[op6]` (R103), less the links of slots 0x3C to 0x3F. -/
def upperTable : List (Nat × (Word → Instr)) :=
  [ (0x00, fun w => .addx (Field.dest w) (Field.fd w) (Field.fs w) (Field.ft w)),
    (0x01, fun w => .addy (Field.dest w) (Field.fd w) (Field.fs w) (Field.ft w)),
    (0x02, fun w => .addz (Field.dest w) (Field.fd w) (Field.fs w) (Field.ft w)),
    (0x03, fun w => .addw (Field.dest w) (Field.fd w) (Field.fs w) (Field.ft w)),
    (0x04, fun w => .subx (Field.dest w) (Field.fd w) (Field.fs w) (Field.ft w)),
    (0x05, fun w => .suby (Field.dest w) (Field.fd w) (Field.fs w) (Field.ft w)),
    (0x06, fun w => .subz (Field.dest w) (Field.fd w) (Field.fs w) (Field.ft w)),
    (0x07, fun w => .subw (Field.dest w) (Field.fd w) (Field.fs w) (Field.ft w)),
    (0x08, fun w => .maddx (Field.dest w) (Field.fd w) (Field.fs w) (Field.ft w)),
    (0x09, fun w => .maddy (Field.dest w) (Field.fd w) (Field.fs w) (Field.ft w)),
    (0x0A, fun w => .maddz (Field.dest w) (Field.fd w) (Field.fs w) (Field.ft w)),
    (0x0B, fun w => .maddw (Field.dest w) (Field.fd w) (Field.fs w) (Field.ft w)),
    (0x0C, fun w => .msubx (Field.dest w) (Field.fd w) (Field.fs w) (Field.ft w)),
    (0x0D, fun w => .msuby (Field.dest w) (Field.fd w) (Field.fs w) (Field.ft w)),
    (0x0E, fun w => .msubz (Field.dest w) (Field.fd w) (Field.fs w) (Field.ft w)),
    (0x0F, fun w => .msubw (Field.dest w) (Field.fd w) (Field.fs w) (Field.ft w)),
    (0x10, fun w => .maxx (Field.dest w) (Field.fd w) (Field.fs w) (Field.ft w)),
    (0x11, fun w => .maxy (Field.dest w) (Field.fd w) (Field.fs w) (Field.ft w)),
    (0x12, fun w => .maxz (Field.dest w) (Field.fd w) (Field.fs w) (Field.ft w)),
    (0x13, fun w => .maxw (Field.dest w) (Field.fd w) (Field.fs w) (Field.ft w)),
    (0x14, fun w => .minix (Field.dest w) (Field.fd w) (Field.fs w) (Field.ft w)),
    (0x15, fun w => .miniy (Field.dest w) (Field.fd w) (Field.fs w) (Field.ft w)),
    (0x16, fun w => .miniz (Field.dest w) (Field.fd w) (Field.fs w) (Field.ft w)),
    (0x17, fun w => .miniw (Field.dest w) (Field.fd w) (Field.fs w) (Field.ft w)),
    (0x18, fun w => .mulx (Field.dest w) (Field.fd w) (Field.fs w) (Field.ft w)),
    (0x19, fun w => .muly (Field.dest w) (Field.fd w) (Field.fs w) (Field.ft w)),
    (0x1A, fun w => .mulz (Field.dest w) (Field.fd w) (Field.fs w) (Field.ft w)),
    (0x1B, fun w => .mulw (Field.dest w) (Field.fd w) (Field.fs w) (Field.ft w)),
    (0x1C, fun w => .mulq (Field.dest w) (Field.fd w) (Field.fs w)),
    (0x1D, fun w => .maxi (Field.dest w) (Field.fd w) (Field.fs w)),
    (0x1E, fun w => .muli (Field.dest w) (Field.fd w) (Field.fs w)),
    (0x1F, fun w => .minii (Field.dest w) (Field.fd w) (Field.fs w)),
    (0x20, fun w => .addq (Field.dest w) (Field.fd w) (Field.fs w)),
    (0x21, fun w => .maddq (Field.dest w) (Field.fd w) (Field.fs w)),
    (0x22, fun w => .addi (Field.dest w) (Field.fd w) (Field.fs w)),
    (0x23, fun w => .maddi (Field.dest w) (Field.fd w) (Field.fs w)),
    (0x24, fun w => .subq (Field.dest w) (Field.fd w) (Field.fs w)),
    (0x25, fun w => .msubq (Field.dest w) (Field.fd w) (Field.fs w)),
    (0x26, fun w => .subi (Field.dest w) (Field.fd w) (Field.fs w)),
    (0x27, fun w => .msubi (Field.dest w) (Field.fd w) (Field.fs w)),
    (0x28, fun w => .add (Field.dest w) (Field.fd w) (Field.fs w) (Field.ft w)),
    (0x29, fun w => .madd (Field.dest w) (Field.fd w) (Field.fs w) (Field.ft w)),
    (0x2A, fun w => .mul (Field.dest w) (Field.fd w) (Field.fs w) (Field.ft w)),
    (0x2B, fun w => .max (Field.dest w) (Field.fd w) (Field.fs w) (Field.ft w)),
    (0x2C, fun w => .sub (Field.dest w) (Field.fd w) (Field.fs w) (Field.ft w)),
    (0x2D, fun w => .msub (Field.dest w) (Field.fd w) (Field.fs w) (Field.ft w)),
    (0x2E, fun w => .opmsub (Field.dest w) (Field.fd w) (Field.fs w) (Field.ft w)),
    (0x2F, fun w => .mini (Field.dest w) (Field.fd w) (Field.fs w) (Field.ft w)) ]

/-- `FD_00[index]` (R104). -/
def fdTable00 : List (Nat × (Word → Instr)) :=
  [ (0x00, fun w => .addax (Field.dest w) (Field.fs w) (Field.ft w)),
    (0x01, fun w => .subax (Field.dest w) (Field.fs w) (Field.ft w)),
    (0x02, fun w => .maddax (Field.dest w) (Field.fs w) (Field.ft w)),
    (0x03, fun w => .msubax (Field.dest w) (Field.fs w) (Field.ft w)),
    (0x04, fun w => .itof0 (Field.dest w) (Field.ft w) (Field.fs w)),
    (0x05, fun w => .ftoi0 (Field.dest w) (Field.ft w) (Field.fs w)),
    (0x06, fun w => .mulax (Field.dest w) (Field.fs w) (Field.ft w)),
    (0x07, fun w => .mulaq (Field.dest w) (Field.fs w)),
    (0x08, fun w => .addaq (Field.dest w) (Field.fs w)),
    (0x09, fun w => .subaq (Field.dest w) (Field.fs w)),
    (0x0A, fun w => .adda (Field.dest w) (Field.fs w) (Field.ft w)),
    (0x0B, fun w => .suba (Field.dest w) (Field.fs w) (Field.ft w)) ]

/-- `FD_01[index]` (R104). -/
def fdTable01 : List (Nat × (Word → Instr)) :=
  [ (0x00, fun w => .adday (Field.dest w) (Field.fs w) (Field.ft w)),
    (0x01, fun w => .subay (Field.dest w) (Field.fs w) (Field.ft w)),
    (0x02, fun w => .madday (Field.dest w) (Field.fs w) (Field.ft w)),
    (0x03, fun w => .msubay (Field.dest w) (Field.fs w) (Field.ft w)),
    (0x04, fun w => .itof4 (Field.dest w) (Field.ft w) (Field.fs w)),
    (0x05, fun w => .ftoi4 (Field.dest w) (Field.ft w) (Field.fs w)),
    (0x06, fun w => .mulay (Field.dest w) (Field.fs w) (Field.ft w)),
    (0x07, fun w => .abs (Field.dest w) (Field.ft w) (Field.fs w)),
    (0x08, fun w => .maddaq (Field.dest w) (Field.fs w)),
    (0x09, fun w => .msubaq (Field.dest w) (Field.fs w)),
    (0x0A, fun w => .madda (Field.dest w) (Field.fs w) (Field.ft w)),
    (0x0B, fun w => .msuba (Field.dest w) (Field.fs w) (Field.ft w)) ]

/-- `FD_10[index]` (R104). -/
def fdTable10 : List (Nat × (Word → Instr)) :=
  [ (0x00, fun w => .addaz (Field.dest w) (Field.fs w) (Field.ft w)),
    (0x01, fun w => .subaz (Field.dest w) (Field.fs w) (Field.ft w)),
    (0x02, fun w => .maddaz (Field.dest w) (Field.fs w) (Field.ft w)),
    (0x03, fun w => .msubaz (Field.dest w) (Field.fs w) (Field.ft w)),
    (0x04, fun w => .itof12 (Field.dest w) (Field.ft w) (Field.fs w)),
    (0x05, fun w => .ftoi12 (Field.dest w) (Field.ft w) (Field.fs w)),
    (0x06, fun w => .mulaz (Field.dest w) (Field.fs w) (Field.ft w)),
    (0x07, fun w => .mulai (Field.dest w) (Field.fs w)),
    (0x08, fun w => .addai (Field.dest w) (Field.fs w)),
    (0x09, fun w => .subai (Field.dest w) (Field.fs w)),
    (0x0A, fun w => .mula (Field.dest w) (Field.fs w) (Field.ft w)),
    (0x0B, fun w => .opmula (Field.dest w) (Field.fs w) (Field.ft w)) ]

/-- `FD_11[index]` (R104). -/
def fdTable11 : List (Nat × (Word → Instr)) :=
  [ (0x00, fun w => .addaw (Field.dest w) (Field.fs w) (Field.ft w)),
    (0x01, fun w => .subaw (Field.dest w) (Field.fs w) (Field.ft w)),
    (0x02, fun w => .maddaw (Field.dest w) (Field.fs w) (Field.ft w)),
    (0x03, fun w => .msubaw (Field.dest w) (Field.fs w) (Field.ft w)),
    (0x04, fun w => .itof15 (Field.dest w) (Field.ft w) (Field.fs w)),
    (0x05, fun w => .ftoi15 (Field.dest w) (Field.ft w) (Field.fs w)),
    (0x06, fun w => .mulaw (Field.dest w) (Field.fs w) (Field.ft w)),
    (0x07, fun w => .clipw (Field.dest w) (Field.fs w) (Field.ft w)),
    (0x08, fun w => .maddai (Field.dest w) (Field.fs w)),
    (0x09, fun w => .msubai (Field.dest w) (Field.fs w)),
    (0x0B, fun _ => .nop) ]

/-- `LOWER[op7]` (R100), less the link of slot 0x40. -/
def lowerTable : List (Nat × (Word → Instr)) :=
  [ (0x00, fun w => .lq (Field.dest w) (Field.ft w) (Field.imm11 w) (Field.is w)),
    (0x01, fun w => .sq (Field.dest w) (Field.fs w) (Field.imm11 w) (Field.it w)),
    (0x04, fun w => .ilw (Field.dest w) (Field.it w) (Field.imm11 w) (Field.is w)),
    (0x05, fun w => .isw (Field.dest w) (Field.it w) (Field.imm11 w) (Field.is w)),
    (0x08, fun w => .iaddiu (Field.it w) (Field.is w) (Field.imm15 w)),
    (0x09, fun w => .isubiu (Field.it w) (Field.is w) (Field.imm15 w)),
    (0x10, fun w => .fceq (Field.imm24 w)),
    (0x11, fun w => .fcset (Field.imm24 w)),
    (0x12, fun w => .fcand (Field.imm24 w)),
    (0x13, fun w => .fcor (Field.imm24 w)),
    (0x14, fun w => .fseq (Field.it w) (Field.imm12 w)),
    (0x15, fun w => .fsset (Field.imm12 w)),
    (0x16, fun w => .fsand (Field.it w) (Field.imm12 w)),
    (0x17, fun w => .fsor (Field.it w) (Field.imm12 w)),
    (0x18, fun w => .fmeq (Field.it w) (Field.is w)),
    (0x1A, fun w => .fmand (Field.it w) (Field.is w)),
    (0x1B, fun w => .fmor (Field.it w) (Field.is w)),
    (0x1C, fun w => .fcget (Field.it w)),
    (0x20, fun w => .b (Field.imm11 w)),
    (0x21, fun w => .bal (Field.it w) (Field.imm11 w)),
    (0x24, fun w => .jr (Field.is w)),
    (0x25, fun w => .jalr (Field.it w) (Field.is w)),
    (0x28, fun w => .ibeq (Field.it w) (Field.is w) (Field.imm11 w)),
    (0x29, fun w => .ibne (Field.it w) (Field.is w) (Field.imm11 w)),
    (0x2C, fun w => .ibltz (Field.is w) (Field.imm11 w)),
    (0x2D, fun w => .ibgtz (Field.is w) (Field.imm11 w)),
    (0x2E, fun w => .iblez (Field.is w) (Field.imm11 w)),
    (0x2F, fun w => .ibgez (Field.is w) (Field.imm11 w)) ]

/-- `LOWEROP[sub6]` (R101), less the links of slots 0x3C to 0x3F. -/
def lowerOpTable : List (Nat × (Word → Instr)) :=
  [ (0x30, fun w => .iadd (Field.id w) (Field.is w) (Field.it w)),
    (0x31, fun w => .isub (Field.id w) (Field.is w) (Field.it w)),
    (0x32, fun w => .iaddi (Field.it w) (Field.is w) (Field.imm5 w)),
    (0x34, fun w => .iand (Field.id w) (Field.is w) (Field.it w)),
    (0x35, fun w => .ior (Field.id w) (Field.is w) (Field.it w)) ]

/-- `T3_00[index]` (R102). -/
def t3Table00 : List (Nat × (Word → Instr)) :=
  [ (0x0C, fun w => .move (Field.dest w) (Field.ft w) (Field.fs w)),
    (0x0D, fun w => .lqi (Field.dest w) (Field.ft w) (Field.is w)),
    (0x0E, fun w => .div (Field.fs w) (Field.fsf w) (Field.ft w) (Field.ftf w)),
    (0x0F, fun w => .mtir (Field.it w) (Field.fs w) (Field.fsf w)),
    (0x10, fun w => .rnext (Field.dest w) (Field.ft w)),
    (0x19, fun w => .mfp (Field.dest w) (Field.ft w)),
    (0x1A, fun w => .xtop (Field.it w)),
    (0x1B, fun w => .xgkick (Field.is w)),
    (0x1C, fun w => .esadd (Field.fs w)),
    (0x1D, fun w => .eatanxy (Field.fs w)),
    (0x1E, fun w => .esqrt (Field.fs w) (Field.fsf w)),
    (0x1F, fun w => .esin (Field.fs w) (Field.fsf w)) ]

/-- `T3_01[index]` (R102). -/
def t3Table01 : List (Nat × (Word → Instr)) :=
  [ (0x0C, fun w => .mr32 (Field.dest w) (Field.ft w) (Field.fs w)),
    (0x0D, fun w => .sqi (Field.dest w) (Field.fs w) (Field.it w)),
    (0x0E, fun w => .sqrt (Field.ft w) (Field.ftf w)),
    (0x0F, fun w => .mfir (Field.dest w) (Field.ft w) (Field.is w)),
    (0x10, fun w => .rget (Field.dest w) (Field.ft w)),
    (0x1A, fun w => .xitop (Field.it w)),
    (0x1C, fun w => .ersadd (Field.fs w)),
    (0x1D, fun w => .eatanxz (Field.fs w)),
    (0x1E, fun w => .ersqrt (Field.fs w) (Field.fsf w)),
    (0x1F, fun w => .eatan (Field.fs w) (Field.fsf w)) ]

/-- `T3_10[index]` (R102). -/
def t3Table10 : List (Nat × (Word → Instr)) :=
  [ (0x0D, fun w => .lqd (Field.dest w) (Field.ft w) (Field.is w)),
    (0x0E, fun w => .rsqrt (Field.fs w) (Field.fsf w) (Field.ft w) (Field.ftf w)),
    (0x0F, fun w => .ilwr (Field.dest w) (Field.it w) (Field.is w)),
    (0x10, fun w => .rinit (Field.fs w) (Field.fsf w)),
    (0x1C, fun w => .eleng (Field.fs w)),
    (0x1D, fun w => .esum (Field.fs w)),
    (0x1E, fun w => .ercpr (Field.fs w) (Field.fsf w)),
    (0x1F, fun w => .eexp (Field.fs w) (Field.fsf w)) ]

/-- `T3_11[index]` (R102). -/
def t3Table11 : List (Nat × (Word → Instr)) :=
  [ (0x0D, fun w => .sqd (Field.dest w) (Field.fs w) (Field.it w)),
    (0x0E, fun _ => .waitq),
    (0x0F, fun w => .iswr (Field.dest w) (Field.it w) (Field.is w)),
    (0x10, fun w => .rxor (Field.fs w) (Field.fsf w)),
    (0x1C, fun w => .erleng (Field.fs w)),
    (0x1E, fun _ => .waitp) ]

/-! ### Dispatch (R154 to R158) -/

/-- The row in slot `k` of a table, applied to the word; the sentinel where the slot is empty (R159). -/
def selectRow (table : List (Nat × (Word → Instr))) (k : Nat) (w : Word) : Except DecodeError Instr :=
  match table.lookup k with
  | some mk => .ok (mk w)
  | none => .error .badInstruction

/-- The second-level upper tables: slots 0x3C to 0x3F of UPPER (R157, R158). -/
def upperLink (op6 : Nat) : Option (List (Nat × (Word → Instr))) :=
  [(0x3C, fdTable00), (0x3D, fdTable01), (0x3E, fdTable10), (0x3F, fdTable11)].lookup op6

/-- The third-level lower tables: slots 0x3C to 0x3F of LOWEROP (R155, R156). -/
def lowerLink (sub6 : Nat) : Option (List (Nat × (Word → Instr))) :=
  [(0x3C, t3Table00), (0x3D, t3Table01), (0x3E, t3Table10), (0x3F, t3Table11)].lookup sub6

/-- Upper dispatch (R157, R158): op6 = `w[5:0]`, then index = `w[10:6]` under a link. -/
def decodeUpper (w : Word) : Except DecodeError Instr :=
  match upperLink (bits 0 6 w).toNat with
  | some table => selectRow table (bits 6 5 w).toNat w
  | none => selectRow upperTable (bits 0 6 w).toNat w

/-- Lower dispatch under slot 0x40 (R155, R156): sub6 = `w[5:0]`, then index = `w[10:6]` under a link. -/
def decodeLowerOp (w : Word) : Except DecodeError Instr :=
  match lowerLink (bits 0 6 w).toNat with
  | some table => selectRow table (bits 6 5 w).toNat w
  | none => selectRow lowerOpTable (bits 0 6 w).toNat w

/-- Lower dispatch (R154): op7 = `w[31:25]`. -/
def decodeLower (w : Word) : Except DecodeError Instr :=
  if (bits 25 7 w).toNat = 0x40 then decodeLowerOp w
  else selectRow lowerTable (bits 25 7 w).toNat w

/-! ### Trace packets (R118, R452) -/

/-- The six kinds of trace packet (R118). -/
inductive PacketKind where
  | pushSnapshot
  | setRegisters
  | setMemory
  | setInstructions
  | loadOp
  | storeOp
deriving DecidableEq, Repr

/-- The kind a tag byte names; `none` for every other byte value (R118, R453). -/
def Params.kindOf (p : Params) (b : Byte) : Option PacketKind :=
  if b = p.tagPushSnapshot then some .pushSnapshot
  else if b = p.tagSetRegisters then some .setRegisters
  else if b = p.tagSetMemory then some .setMemory
  else if b = p.tagSetInstructions then some .setInstructions
  else if b = p.tagLoadOp then some .loadOp
  else if b = p.tagStoreOp then some .storeOp
  else none

/-- The payload length of a kind (R118): it depends on the tag alone. -/
def Params.payloadLength (p : Params) : PacketKind → Nat
  | .pushSnapshot => 0
  | .setRegisters => p.regBlockBytes
  | .setMemory => dataBytes
  | .setInstructions => progBytes
  | .loadOp => 8
  | .storeOp => 8

/-- The packet with a given payload; `addr` is the first word and `size` the second (R118, D25). -/
def packetOf (kind : PacketKind) (payload : List Byte) : Instr :=
  match kind with
  | .pushSnapshot => .pushsnapshot
  | .setRegisters => .setregisters payload
  | .setMemory => .setmemory payload
  | .setInstructions => .setinstructions payload
  | .loadOp => .loadop (le32 payload) (le32 (payload.drop 4))
  | .storeOp => .storeop (le32 payload) (le32 (payload.drop 4))

/-- The packet at the head of a byte string, and the bytes after it; the checks in the order of R468. -/
def decodePacket (p : Params) : List Byte → Except PacketError (Instr × List Byte)
  | [] => .error .endOfStream
  | b :: rest =>
    match p.kindOf b with
    | none => .error (.badTag b)
    | some kind =>
      if rest.length < p.payloadLength kind then .error (.truncated b (p.payloadLength kind) rest.length)
      else .ok (packetOf kind (rest.take (p.payloadLength kind)), rest.drop (p.payloadLength kind))

/-- The instruction that a slot's decoder reads at the head of a byte string, and the bytes after it. A word of a pair
is four little-endian bytes (R70, R72). -/
def decode (p : Params) (slot : Slot) (bytes : List Byte) : Except DecodeError (Instr × List Byte) :=
  match slot with
  | .packet =>
    match decodePacket p bytes with
    | .ok x => .ok x
    | .error e => .error (.packet e)
  | .upper =>
    if bytes.length < 4 then .error .shortWord
    else match decodeUpper (le32 bytes) with
      | .ok i => .ok (i, bytes.drop 4)
      | .error e => .error e
  | .lower =>
    if bytes.length < 4 then .error .shortWord
    else match decodeLower (le32 bytes) with
      | .ok i => .ok (i, bytes.drop 4)
      | .error e => .error e

/-! ### The encoder -/

/-- An instruction's encoding: a word of one slot of a pair, or the bytes of a packet. -/
inductive Encoding where
  | word (slot : Slot) (w : Word)
  | packet (bytes : List Byte)
deriving DecidableEq, Repr

/-- The upper-word layout of R91, with the control bits and bits 26:25 zero. -/
def upperWord (dest : BitVec 4) (ft fs fd : BitVec 5) (op6 : BitVec 6) : Word :=
  0#7 ++ dest ++ ft ++ fs ++ fd ++ op6

/-- The lower-word layout of R93; `low` is bits 10:0. -/
def lowerWord (op7 : BitVec 7) (dest : BitVec 4) (ft fs : BitVec 5) (low : BitVec 11) : Word :=
  op7 ++ dest ++ ft ++ fs ++ low

/-- The lower word of class L_IMM24 (R94, R96): bit 24 is not read. -/
def lowerImm24 (op7 : BitVec 7) (imm24 : BitVec 24) : Word := op7 ++ 0#1 ++ imm24

/-- An integer register in the 5-bit slot that holds it: the high bit is not part of it (R95). -/
def mini (r : BitVec 4) : BitVec 5 := 0#1 ++ r

/-- The encoding of an instruction, every bit its row does not read being zero (R106). -/
def encoding (p : Params) (i : Instr) : Encoding :=
  match i with
  | .addx dest fd fs ft => .word .upper (upperWord dest ft fs fd 0x00#6)
  | .addy dest fd fs ft => .word .upper (upperWord dest ft fs fd 0x01#6)
  | .addz dest fd fs ft => .word .upper (upperWord dest ft fs fd 0x02#6)
  | .addw dest fd fs ft => .word .upper (upperWord dest ft fs fd 0x03#6)
  | .subx dest fd fs ft => .word .upper (upperWord dest ft fs fd 0x04#6)
  | .suby dest fd fs ft => .word .upper (upperWord dest ft fs fd 0x05#6)
  | .subz dest fd fs ft => .word .upper (upperWord dest ft fs fd 0x06#6)
  | .subw dest fd fs ft => .word .upper (upperWord dest ft fs fd 0x07#6)
  | .maddx dest fd fs ft => .word .upper (upperWord dest ft fs fd 0x08#6)
  | .maddy dest fd fs ft => .word .upper (upperWord dest ft fs fd 0x09#6)
  | .maddz dest fd fs ft => .word .upper (upperWord dest ft fs fd 0x0A#6)
  | .maddw dest fd fs ft => .word .upper (upperWord dest ft fs fd 0x0B#6)
  | .msubx dest fd fs ft => .word .upper (upperWord dest ft fs fd 0x0C#6)
  | .msuby dest fd fs ft => .word .upper (upperWord dest ft fs fd 0x0D#6)
  | .msubz dest fd fs ft => .word .upper (upperWord dest ft fs fd 0x0E#6)
  | .msubw dest fd fs ft => .word .upper (upperWord dest ft fs fd 0x0F#6)
  | .maxx dest fd fs ft => .word .upper (upperWord dest ft fs fd 0x10#6)
  | .maxy dest fd fs ft => .word .upper (upperWord dest ft fs fd 0x11#6)
  | .maxz dest fd fs ft => .word .upper (upperWord dest ft fs fd 0x12#6)
  | .maxw dest fd fs ft => .word .upper (upperWord dest ft fs fd 0x13#6)
  | .minix dest fd fs ft => .word .upper (upperWord dest ft fs fd 0x14#6)
  | .miniy dest fd fs ft => .word .upper (upperWord dest ft fs fd 0x15#6)
  | .miniz dest fd fs ft => .word .upper (upperWord dest ft fs fd 0x16#6)
  | .miniw dest fd fs ft => .word .upper (upperWord dest ft fs fd 0x17#6)
  | .mulx dest fd fs ft => .word .upper (upperWord dest ft fs fd 0x18#6)
  | .muly dest fd fs ft => .word .upper (upperWord dest ft fs fd 0x19#6)
  | .mulz dest fd fs ft => .word .upper (upperWord dest ft fs fd 0x1A#6)
  | .mulw dest fd fs ft => .word .upper (upperWord dest ft fs fd 0x1B#6)
  | .mulq dest fd fs => .word .upper (upperWord dest 0#5 fs fd 0x1C#6)
  | .maxi dest fd fs => .word .upper (upperWord dest 0#5 fs fd 0x1D#6)
  | .muli dest fd fs => .word .upper (upperWord dest 0#5 fs fd 0x1E#6)
  | .minii dest fd fs => .word .upper (upperWord dest 0#5 fs fd 0x1F#6)
  | .addq dest fd fs => .word .upper (upperWord dest 0#5 fs fd 0x20#6)
  | .maddq dest fd fs => .word .upper (upperWord dest 0#5 fs fd 0x21#6)
  | .addi dest fd fs => .word .upper (upperWord dest 0#5 fs fd 0x22#6)
  | .maddi dest fd fs => .word .upper (upperWord dest 0#5 fs fd 0x23#6)
  | .subq dest fd fs => .word .upper (upperWord dest 0#5 fs fd 0x24#6)
  | .msubq dest fd fs => .word .upper (upperWord dest 0#5 fs fd 0x25#6)
  | .subi dest fd fs => .word .upper (upperWord dest 0#5 fs fd 0x26#6)
  | .msubi dest fd fs => .word .upper (upperWord dest 0#5 fs fd 0x27#6)
  | .add dest fd fs ft => .word .upper (upperWord dest ft fs fd 0x28#6)
  | .madd dest fd fs ft => .word .upper (upperWord dest ft fs fd 0x29#6)
  | .mul dest fd fs ft => .word .upper (upperWord dest ft fs fd 0x2A#6)
  | .max dest fd fs ft => .word .upper (upperWord dest ft fs fd 0x2B#6)
  | .sub dest fd fs ft => .word .upper (upperWord dest ft fs fd 0x2C#6)
  | .msub dest fd fs ft => .word .upper (upperWord dest ft fs fd 0x2D#6)
  | .opmsub dest fd fs ft => .word .upper (upperWord dest ft fs fd 0x2E#6)
  | .mini dest fd fs ft => .word .upper (upperWord dest ft fs fd 0x2F#6)
  | .addax dest fs ft => .word .upper (upperWord dest ft fs 0x00#5 0x3C#6)
  | .subax dest fs ft => .word .upper (upperWord dest ft fs 0x01#5 0x3C#6)
  | .maddax dest fs ft => .word .upper (upperWord dest ft fs 0x02#5 0x3C#6)
  | .msubax dest fs ft => .word .upper (upperWord dest ft fs 0x03#5 0x3C#6)
  | .itof0 dest ft fs => .word .upper (upperWord dest ft fs 0x04#5 0x3C#6)
  | .ftoi0 dest ft fs => .word .upper (upperWord dest ft fs 0x05#5 0x3C#6)
  | .mulax dest fs ft => .word .upper (upperWord dest ft fs 0x06#5 0x3C#6)
  | .mulaq dest fs => .word .upper (upperWord dest 0#5 fs 0x07#5 0x3C#6)
  | .addaq dest fs => .word .upper (upperWord dest 0#5 fs 0x08#5 0x3C#6)
  | .subaq dest fs => .word .upper (upperWord dest 0#5 fs 0x09#5 0x3C#6)
  | .adda dest fs ft => .word .upper (upperWord dest ft fs 0x0A#5 0x3C#6)
  | .suba dest fs ft => .word .upper (upperWord dest ft fs 0x0B#5 0x3C#6)
  | .adday dest fs ft => .word .upper (upperWord dest ft fs 0x00#5 0x3D#6)
  | .subay dest fs ft => .word .upper (upperWord dest ft fs 0x01#5 0x3D#6)
  | .madday dest fs ft => .word .upper (upperWord dest ft fs 0x02#5 0x3D#6)
  | .msubay dest fs ft => .word .upper (upperWord dest ft fs 0x03#5 0x3D#6)
  | .itof4 dest ft fs => .word .upper (upperWord dest ft fs 0x04#5 0x3D#6)
  | .ftoi4 dest ft fs => .word .upper (upperWord dest ft fs 0x05#5 0x3D#6)
  | .mulay dest fs ft => .word .upper (upperWord dest ft fs 0x06#5 0x3D#6)
  | .abs dest ft fs => .word .upper (upperWord dest ft fs 0x07#5 0x3D#6)
  | .maddaq dest fs => .word .upper (upperWord dest 0#5 fs 0x08#5 0x3D#6)
  | .msubaq dest fs => .word .upper (upperWord dest 0#5 fs 0x09#5 0x3D#6)
  | .madda dest fs ft => .word .upper (upperWord dest ft fs 0x0A#5 0x3D#6)
  | .msuba dest fs ft => .word .upper (upperWord dest ft fs 0x0B#5 0x3D#6)
  | .addaz dest fs ft => .word .upper (upperWord dest ft fs 0x00#5 0x3E#6)
  | .subaz dest fs ft => .word .upper (upperWord dest ft fs 0x01#5 0x3E#6)
  | .maddaz dest fs ft => .word .upper (upperWord dest ft fs 0x02#5 0x3E#6)
  | .msubaz dest fs ft => .word .upper (upperWord dest ft fs 0x03#5 0x3E#6)
  | .itof12 dest ft fs => .word .upper (upperWord dest ft fs 0x04#5 0x3E#6)
  | .ftoi12 dest ft fs => .word .upper (upperWord dest ft fs 0x05#5 0x3E#6)
  | .mulaz dest fs ft => .word .upper (upperWord dest ft fs 0x06#5 0x3E#6)
  | .mulai dest fs => .word .upper (upperWord dest 0#5 fs 0x07#5 0x3E#6)
  | .addai dest fs => .word .upper (upperWord dest 0#5 fs 0x08#5 0x3E#6)
  | .subai dest fs => .word .upper (upperWord dest 0#5 fs 0x09#5 0x3E#6)
  | .mula dest fs ft => .word .upper (upperWord dest ft fs 0x0A#5 0x3E#6)
  | .opmula dest fs ft => .word .upper (upperWord dest ft fs 0x0B#5 0x3E#6)
  | .addaw dest fs ft => .word .upper (upperWord dest ft fs 0x00#5 0x3F#6)
  | .subaw dest fs ft => .word .upper (upperWord dest ft fs 0x01#5 0x3F#6)
  | .maddaw dest fs ft => .word .upper (upperWord dest ft fs 0x02#5 0x3F#6)
  | .msubaw dest fs ft => .word .upper (upperWord dest ft fs 0x03#5 0x3F#6)
  | .itof15 dest ft fs => .word .upper (upperWord dest ft fs 0x04#5 0x3F#6)
  | .ftoi15 dest ft fs => .word .upper (upperWord dest ft fs 0x05#5 0x3F#6)
  | .mulaw dest fs ft => .word .upper (upperWord dest ft fs 0x06#5 0x3F#6)
  | .clipw dest fs ft => .word .upper (upperWord dest ft fs 0x07#5 0x3F#6)
  | .maddai dest fs => .word .upper (upperWord dest 0#5 fs 0x08#5 0x3F#6)
  | .msubai dest fs => .word .upper (upperWord dest 0#5 fs 0x09#5 0x3F#6)
  | .nop => .word .upper (upperWord 0#4 0#5 0#5 0x0B#5 0x3F#6)
  | .lq dest ft imm11 is => .word .lower (lowerWord 0x00#7 dest ft (mini is) imm11)
  | .sq dest fs imm11 it => .word .lower (lowerWord 0x01#7 dest (mini it) fs imm11)
  | .ilw dest it imm11 is => .word .lower (lowerWord 0x04#7 dest (mini it) (mini is) imm11)
  | .isw dest it imm11 is => .word .lower (lowerWord 0x05#7 dest (mini it) (mini is) imm11)
  | .iaddiu it is imm15 => .word .lower (lowerWord 0x08#7 (bits 11 4 imm15) (mini it) (mini is) (bits 0 11 imm15))
  | .isubiu it is imm15 => .word .lower (lowerWord 0x09#7 (bits 11 4 imm15) (mini it) (mini is) (bits 0 11 imm15))
  | .fceq imm24 => .word .lower (lowerImm24 0x10#7 imm24)
  | .fcset imm24 => .word .lower (lowerImm24 0x11#7 imm24)
  | .fcand imm24 => .word .lower (lowerImm24 0x12#7 imm24)
  | .fcor imm24 => .word .lower (lowerImm24 0x13#7 imm24)
  | .fseq it imm12 => .word .lower (lowerWord 0x14#7 (0#3 ++ bits 11 1 imm12) (mini it) 0#5 (bits 0 11 imm12))
  | .fsset imm12 => .word .lower (lowerWord 0x15#7 (0#3 ++ bits 11 1 imm12) 0#5 0#5 (bits 0 11 imm12))
  | .fsand it imm12 => .word .lower (lowerWord 0x16#7 (0#3 ++ bits 11 1 imm12) (mini it) 0#5 (bits 0 11 imm12))
  | .fsor it imm12 => .word .lower (lowerWord 0x17#7 (0#3 ++ bits 11 1 imm12) (mini it) 0#5 (bits 0 11 imm12))
  | .fmeq it is => .word .lower (lowerWord 0x18#7 0#4 (mini it) (mini is) 0#11)
  | .fmand it is => .word .lower (lowerWord 0x1A#7 0#4 (mini it) (mini is) 0#11)
  | .fmor it is => .word .lower (lowerWord 0x1B#7 0#4 (mini it) (mini is) 0#11)
  | .fcget it => .word .lower (lowerWord 0x1C#7 0#4 (mini it) 0#5 0#11)
  | .b imm11 => .word .lower (lowerWord 0x20#7 0#4 0#5 0#5 imm11)
  | .bal it imm11 => .word .lower (lowerWord 0x21#7 0#4 (mini it) 0#5 imm11)
  | .jr is => .word .lower (lowerWord 0x24#7 0#4 0#5 (mini is) 0#11)
  | .jalr it is => .word .lower (lowerWord 0x25#7 0#4 (mini it) (mini is) 0#11)
  | .ibeq it is imm11 => .word .lower (lowerWord 0x28#7 0#4 (mini it) (mini is) imm11)
  | .ibne it is imm11 => .word .lower (lowerWord 0x29#7 0#4 (mini it) (mini is) imm11)
  | .ibltz is imm11 => .word .lower (lowerWord 0x2C#7 0#4 0#5 (mini is) imm11)
  | .ibgtz is imm11 => .word .lower (lowerWord 0x2D#7 0#4 0#5 (mini is) imm11)
  | .iblez is imm11 => .word .lower (lowerWord 0x2E#7 0#4 0#5 (mini is) imm11)
  | .ibgez is imm11 => .word .lower (lowerWord 0x2F#7 0#4 0#5 (mini is) imm11)
  | .iadd id is it => .word .lower (lowerWord 0x40#7 0#4 (mini it) (mini is) ((mini id) ++ 0x30#6))
  | .isub id is it => .word .lower (lowerWord 0x40#7 0#4 (mini it) (mini is) ((mini id) ++ 0x31#6))
  | .iaddi it is imm5 => .word .lower (lowerWord 0x40#7 0#4 (mini it) (mini is) (imm5 ++ 0x32#6))
  | .iand id is it => .word .lower (lowerWord 0x40#7 0#4 (mini it) (mini is) ((mini id) ++ 0x34#6))
  | .ior id is it => .word .lower (lowerWord 0x40#7 0#4 (mini it) (mini is) ((mini id) ++ 0x35#6))
  | .move dest ft fs => .word .lower (lowerWord 0x40#7 dest ft fs (0x0C#5 ++ 0x3C#6))
  | .lqi dest ft is => .word .lower (lowerWord 0x40#7 dest ft (mini is) (0x0D#5 ++ 0x3C#6))
  | .div fs fsf ft ftf => .word .lower (lowerWord 0x40#7 (ftf ++ fsf) ft fs (0x0E#5 ++ 0x3C#6))
  | .mtir it fs fsf => .word .lower (lowerWord 0x40#7 (0#2 ++ fsf) (mini it) fs (0x0F#5 ++ 0x3C#6))
  | .rnext dest ft => .word .lower (lowerWord 0x40#7 dest ft 0#5 (0x10#5 ++ 0x3C#6))
  | .mfp dest ft => .word .lower (lowerWord 0x40#7 dest ft 0#5 (0x19#5 ++ 0x3C#6))
  | .xtop it => .word .lower (lowerWord 0x40#7 0#4 (mini it) 0#5 (0x1A#5 ++ 0x3C#6))
  | .xgkick is => .word .lower (lowerWord 0x40#7 0#4 0#5 (mini is) (0x1B#5 ++ 0x3C#6))
  | .esadd fs => .word .lower (lowerWord 0x40#7 0#4 0#5 fs (0x1C#5 ++ 0x3C#6))
  | .eatanxy fs => .word .lower (lowerWord 0x40#7 0#4 0#5 fs (0x1D#5 ++ 0x3C#6))
  | .esqrt fs fsf => .word .lower (lowerWord 0x40#7 (0#2 ++ fsf) 0#5 fs (0x1E#5 ++ 0x3C#6))
  | .esin fs fsf => .word .lower (lowerWord 0x40#7 (0#2 ++ fsf) 0#5 fs (0x1F#5 ++ 0x3C#6))
  | .mr32 dest ft fs => .word .lower (lowerWord 0x40#7 dest ft fs (0x0C#5 ++ 0x3D#6))
  | .sqi dest fs it => .word .lower (lowerWord 0x40#7 dest (mini it) fs (0x0D#5 ++ 0x3D#6))
  | .sqrt ft ftf => .word .lower (lowerWord 0x40#7 (ftf ++ 0#2) ft 0#5 (0x0E#5 ++ 0x3D#6))
  | .mfir dest ft is => .word .lower (lowerWord 0x40#7 dest ft (mini is) (0x0F#5 ++ 0x3D#6))
  | .rget dest ft => .word .lower (lowerWord 0x40#7 dest ft 0#5 (0x10#5 ++ 0x3D#6))
  | .xitop it => .word .lower (lowerWord 0x40#7 0#4 (mini it) 0#5 (0x1A#5 ++ 0x3D#6))
  | .ersadd fs => .word .lower (lowerWord 0x40#7 0#4 0#5 fs (0x1C#5 ++ 0x3D#6))
  | .eatanxz fs => .word .lower (lowerWord 0x40#7 0#4 0#5 fs (0x1D#5 ++ 0x3D#6))
  | .ersqrt fs fsf => .word .lower (lowerWord 0x40#7 (0#2 ++ fsf) 0#5 fs (0x1E#5 ++ 0x3D#6))
  | .eatan fs fsf => .word .lower (lowerWord 0x40#7 (0#2 ++ fsf) 0#5 fs (0x1F#5 ++ 0x3D#6))
  | .lqd dest ft is => .word .lower (lowerWord 0x40#7 dest ft (mini is) (0x0D#5 ++ 0x3E#6))
  | .rsqrt fs fsf ft ftf => .word .lower (lowerWord 0x40#7 (ftf ++ fsf) ft fs (0x0E#5 ++ 0x3E#6))
  | .ilwr dest it is => .word .lower (lowerWord 0x40#7 dest (mini it) (mini is) (0x0F#5 ++ 0x3E#6))
  | .rinit fs fsf => .word .lower (lowerWord 0x40#7 (0#2 ++ fsf) 0#5 fs (0x10#5 ++ 0x3E#6))
  | .eleng fs => .word .lower (lowerWord 0x40#7 0#4 0#5 fs (0x1C#5 ++ 0x3E#6))
  | .esum fs => .word .lower (lowerWord 0x40#7 0#4 0#5 fs (0x1D#5 ++ 0x3E#6))
  | .ercpr fs fsf => .word .lower (lowerWord 0x40#7 (0#2 ++ fsf) 0#5 fs (0x1E#5 ++ 0x3E#6))
  | .eexp fs fsf => .word .lower (lowerWord 0x40#7 (0#2 ++ fsf) 0#5 fs (0x1F#5 ++ 0x3E#6))
  | .sqd dest fs it => .word .lower (lowerWord 0x40#7 dest (mini it) fs (0x0D#5 ++ 0x3F#6))
  | .waitq => .word .lower (lowerWord 0x40#7 0#4 0#5 0#5 (0x0E#5 ++ 0x3F#6))
  | .iswr dest it is => .word .lower (lowerWord 0x40#7 dest (mini it) (mini is) (0x0F#5 ++ 0x3F#6))
  | .rxor fs fsf => .word .lower (lowerWord 0x40#7 (0#2 ++ fsf) 0#5 fs (0x10#5 ++ 0x3F#6))
  | .erleng fs => .word .lower (lowerWord 0x40#7 0#4 0#5 fs (0x1C#5 ++ 0x3F#6))
  | .waitp => .word .lower (lowerWord 0x40#7 0#4 0#5 0#5 (0x1E#5 ++ 0x3F#6))
  | .pushsnapshot => .packet [p.tagPushSnapshot]
  | .setregisters payload => .packet (p.tagSetRegisters :: payload)
  | .setmemory payload => .packet (p.tagSetMemory :: payload)
  | .setinstructions payload => .packet (p.tagSetInstructions :: payload)
  | .loadop addr size => .packet (p.tagLoadOp :: (leBytes 4 addr.toNat ++ leBytes 4 size.toNat))
  | .storeop addr size => .packet (p.tagStoreOp :: (leBytes 4 addr.toNat ++ leBytes 4 size.toNat))

/-- The bytes of an encoding, a word in little-endian order (R70, R72). -/
def Encoding.bytes : Encoding → List Byte
  | .word _ w => leBytes 4 w.toNat
  | .packet bs => bs

/-- The decoder that reads an encoding. -/
def Encoding.slot : Encoding → Slot
  | .word s _ => s
  | .packet _ => .packet

/-- The bytes of an instruction, as its decoder reads them. -/
def encode (p : Params) (i : Instr) : List Byte := (encoding p i).bytes

/-- The decoder that reads an instruction. -/
def Instr.slot (p : Params) (i : Instr) : Slot := (encoding p i).slot

/-! ### The table's numbering of an instruction's bits -/

/-- The slot a 32-bit word of the opcode table is read in. DESIGN CHOICE (log 11): the table does not say it in the bits.
A word whose bits 31:25 are zero is an upper word if that decodes; every other word is a lower word if that decodes; else
the other slot. -/
def tableSlot (w : Word) : Slot :=
  let upperOk := (decodeUpper w).toOption.isSome
  let lowerOk := (decodeLower w).toOption.isSome
  if bits 25 7 w = 0 then (if upperOk then .upper else .lower)
  else (if lowerOk then .lower else .upper)

/-- The bytes of a packet given by its low `nbits` bits: every byte of its payload above them is zero. -/
def tablePacket (p : Params) (nbits w : Nat) : List Byte :=
  let given := leBytes (nbits / 8) w
  let len := match p.kindOf (BitVec.ofNat 8 w) with
    | some kind => 1 + p.payloadLength kind
    | none => 1
  given ++ List.replicate (len - given.length) 0

/-- The instruction the decoder reads from an instruction whose bits, as the opcode table numbers them, are `w`: 32 bits
are a word of a pair, any other width a trace packet under the parameters of `Params.suggested`. -/
def decodeTableWord (nbits w : Nat) : Option Instr :=
  if nbits = 32 then
    match tableSlot (BitVec.ofNat 32 w) with
    | .upper => (decodeUpper (BitVec.ofNat 32 w)).toOption
    | _ => (decodeLower (BitVec.ofNat 32 w)).toOption
  else (decodePacket Params.suggested (tablePacket Params.suggested nbits w)).toOption.map (·.1)

end Sys2Proof
end

