-- ==== Sys2Proof/Machine/State.lean ====
section
/-! DEFINITION. The state of the block (10_state), as plain data: TSR, EXH and GPD as the spec lists them, the parameters
of R6, and the MODEL's own fields for what the host puts on the ports and reads from them (R48, log 3, log 4). -/

namespace Sys2Proof.Machine

/-! ### Images and sparse maps -/

/-- A map from naturals held as a list of key and value: keys strictly rising, no entry equal to what an absent key reads
as (`Sparse.wf` of Machine/Sparse). -/
abbrev Sparse (α : Type) := List (Nat × α)

/-- A byte image (R46): the register block, a data or a program image. An unlisted address reads as the byte 0. An image
is only ever written whole, by a payload (R12, R76), so in a valid image an unlisted address is one whose byte IS 0
(log 9, safe). -/
abbrev Image := List Host.Cell

/-! ### Snapshots (R36) -/

/-- The pending load or store of a snapshot: two words copied from the trace, neither interpreted (R36, R37). -/
structure Pending where
  addr : Word
  size : Word
deriving DecidableEq, Repr

/-- A snapshot, and TSR's accumulator, which has the same components (R36, R39). A component whose valid bit is false
holds no value, and no rule reads it. -/
structure Snapshot where
  regs         : Image
  regsValid    : Bool
  dmem         : Image
  dmemValid    : Bool
  imem         : Image
  imemValid    : Bool
  pendingLoad  : Option Pending
  pendingStore : Option Pending
deriving DecidableEq, Repr

/-- The accumulator after reset (R39, R542). The contents of the three images are unspecified there (R543); no byte listed
is the model's choice (DESIGN CHOICE, log 7). -/
def Snapshot.empty : Snapshot where
  regs := []
  regsValid := false
  dmem := []
  dmemValid := false
  imem := []
  imemValid := false
  pendingLoad := none
  pendingStore := none

/-! ### TSR (R40) -/

/-- The fatal diagnostics of TSR (R451). -/
inductive TsrDiag where
  | badTag (byte : Byte) (pos : Nat)
  | truncated (tag : Byte) (pos need left : Nat)
deriving DecidableEq, Repr

/-- TSR's status register (R40): `done` and `fatal` are terminal. -/
inductive TsrStatus where
  | running
  | done
  | fatal (diag : TsrDiag)
deriving DecidableEq, Repr

/-- TSR's state (R39, R40), with the stream it reads (R46). -/
structure Tsr where
  stream    : List Byte
  acc       : Snapshot
  cursor    : Nat
  status    : TsrStatus
  snapshots : List Snapshot
deriving DecidableEq, Repr

/-- TSR at the start of `traceRead(stream)` (R542). -/
def Tsr.start (stream : List Byte) : Tsr where
  stream := stream
  acc := Snapshot.empty
  cursor := headerBytes
  status := .running
  snapshots := []

/-! ### EXH (R43) -/

/-- The fault marks of EXH (R498, R499); `index` is the snapshot's. -/
inductive ExhDiag where
  | pcUnavailable (index : Nat)
  | pcOutOfRange (pc : Word) (index : Nat)
deriving DecidableEq, Repr

/-- An instruction record (R43). The maps' keys are pcs, their values counts; an absent key reads as 0 (R494). Counters
are unbounded (R504). -/
structure Record where
  executed      : Bool
  timesExecuted : Nat
  branchTo      : Sparse Nat
  branchFrom    : Sparse Nat
deriving DecidableEq, Repr

/-- A record after reset (R43, R542). -/
def Record.reset : Record where
  executed := false
  timesExecuted := 0
  branchTo := []
  branchFrom := []

/-- EXH's state (R43). A record that is not listed is `Record.reset`. -/
structure Exh where
  records : Sparse Record
  prevPc  : Option Word
  fault   : Option ExhDiag
deriving DecidableEq, Repr

/-- EXH after reset (R542). -/
def Exh.reset : Exh where
  records := []
  prevPc := none
  fault := none

/-! ### GPD (R41, R402) -/

/-- The transfer mode, FLG 0 to 3 (R112, R407). -/
inductive Mode where
  | packed
  | regList
  | image
  | disable
deriving DecidableEq, Repr

/-- The nine sub-fields of PRIM (R111, R406). -/
structure PrimState where
  type : BitVec 3
  iip  : Bool
  tme  : Bool
  fge  : Bool
  abe  : Bool
  aa1  : Bool
  fst  : Bool
  ctxt : Bool
  fix  : Bool
deriving DecidableEq, Repr

/-- A decoded GS tag (R402): nloop is loopCount, eop endOfPacket, pre usePrimFlag, nreg declaredRegisterCount, regs
registerList. -/
structure GsTag where
  nloop     : BitVec 15
  eop       : Bool
  pre       : Bool
  prim      : BitVec 11
  primState : PrimState
  mode      : Mode
  nreg      : BitVec 4
  regs      : List (BitVec 4)
deriving DecidableEq, Repr

/-- The structured reading of an item (R402, R413 to R415). -/
inductive GsDecoded where
  | ad (address : BitVec 8) (data : DWord)
  | xyzf2 (x y : Int) (z : BitVec 24) (f : BitVec 8) (adc : Bool)
  | raw
deriving DecidableEq, Repr

/-- A data item: its absolute address, the register code it was read under, its 16 bytes and their reading (R402). -/
structure GsItem where
  addr    : Nat
  reg     : BitVec 4
  raw     : List Byte
  decoded : GsDecoded
deriving DecidableEq, Repr

/-- A tag with its items (R402). -/
structure GsPrimitive where
  tag   : GsTag
  items : List GsItem
deriving DecidableEq, Repr

/-- The beat that did not fit (R402, R404). -/
inductive Beat where
  | tagBeat
  | itemBeat (loop slot : Nat)
deriving DecidableEq, Repr

/-- The recoverable diagnostics of GPD (R402); `pos` is a window offset. -/
inductive GpdDiag where
  | overrun (what : Beat) (pos : Nat)
  | unsupportedMode (mode : Mode)
deriving DecidableEq, Repr

/-- What GPD's next beat is (R41). -/
inductive Phase where
  | tag
  | items (loop slot : Nat)
deriving DecidableEq, Repr

/-- GPD's status register (R41): `complete` and `partialEnd` are terminal. -/
inductive GpdStatus where
  | running
  | complete
  | partialEnd (diag : GpdDiag)
deriving DecidableEq, Repr

/-- GPD's state (R41), with the image it reads (R400). -/
structure Gpd where
  dmem   : Image
  base   : Nat
  limit  : Nat
  cursor : Nat
  phase  : Phase
  packet : List GsPrimitive
  status : GpdStatus
deriving DecidableEq, Repr

/-- GPD at the start of `gsDecode(dmem, startOffset, availableBytes)` (R541). -/
def Gpd.start (dmem : Image) (startOffset availableBytes : Nat) : Gpd where
  dmem := dmem
  base := startOffset
  limit := availableBytes
  cursor := 0
  phase := .tag
  packet := []
  status := .running

/-! ### IDEC's results (R151, R152, R168) -/

/-- Every value of R95 and R96 for a word, with the branch target of R162 (R151). Signed immediates are their integer
values. R162 defines a target for a lower word only, and an upper result does not depend on the address (R152): the
target of an upper word is `none`. -/
structure Fields where
  dest   : BitVec 4
  ft     : BitVec 5
  fs     : BitVec 5
  fd     : BitVec 5
  it     : BitVec 4
  is     : BitVec 4
  id     : BitVec 4
  bc     : BitVec 2
  fsf    : BitVec 2
  ftf    : BitVec 2
  imm5   : Int
  imm11  : Int
  imm12  : Int
  imm15  : Int
  imm24  : Nat
  target : Option Nat
deriving DecidableEq, Repr

/-- `LowerResult` and `UpperResult` (R151, R152): a row, named by its mnemonic, with its fields and text, or the
sentinel. -/
inductive WordResult where
  | instr (row : String) (f : Fields) (text : String)
  | bad
deriving DecidableEq, Repr

/-- The lower half of a `PairResult` (R168): a decoded lower word or the immediate float literal. -/
inductive PairLower where
  | word (r : WordResult)
  | immFloat (bits : Word) (text : String)
deriving DecidableEq, Repr

/-- The five control bits of an upper word (R99, R169), reported and not interpreted. -/
structure ControlFlags where
  i : Bool
  e : Bool
  m : Bool
  d : Bool
  t : Bool
deriving DecidableEq, Repr

/-- MODEL (log 3): the wires of IDEC's ports (R48). IDEC itself holds no state (R171): a call sets the inputs and
clears the outputs, and what it puts out is a function of its inputs alone. -/
structure IdecPort where
  lower     : Word
  lowerAddr : Word
  upper     : Word
  upperAddr : Word
  lowerRes  : Option PairLower
  upperRes  : Option WordResult
  flags     : Option ControlFlags
deriving DecidableEq, Repr

/-- The wires with nothing on them. -/
def IdecPort.clear : IdecPort where
  lower := 0
  lowerAddr := 0
  upper := 0
  upperAddr := 0
  lowerRes := none
  upperRes := none
  flags := none

/-! ### The host's calls (R48, R527) -/

/-- A snapshot the host passes to a port: the k-th one that `traceRead` returned, or one it supplies itself (R546,
log 12). -/
inductive SnapshotRef where
  | committed (k : Nat)
  | supplied (s : Snapshot)
deriving DecidableEq, Repr

/-- A call of one of the block's ports (R48). -/
inductive Request where
  | extract (value : DWord) (lowBit highBit : Nat)
  | decodeLower (word address : Word)
  | decodeUpper (word address : Word)
  | decodePair (lower upper address : Word)
  | decodePairAt (snapshot : SnapshotRef) (address : Word)
  | gsDecode (dmemOf : SnapshotRef) (startOffset availableBytes : Nat)
  | traceRead (stream : List Byte)
deriving DecidableEq, Repr

/-- MODEL (log 4): which sequential call is in progress; no two units step concurrently (R30). -/
inductive Active where
  | idle
  | trace
  | packet
deriving DecidableEq, Repr

/-! ### The state, and why a step can stop -/

/-- Everything the spec gives the block, and the MODEL's own port fields (`requests`, `active`, `idec`, `bfxOut`). -/
structure State where
  params   : Params
  requests : List Request
  active   : Active
  bfxOut   : Option DWord
  idec     : IdecPort
  gpd      : Gpd
  tsr      : Tsr
  exh      : Exh
deriving DecidableEq, Repr

/-- A step of a state no run reaches (log 14). The spec has no fault that stops the block (R510, R516). -/
inductive Fault where
  /-- Raised by the GPD beat read and by EXH's pc read when the bytes lie outside the image (R12 defines a read only inside
  it; R401 and the parameter constraint rule it out). Safe: the model stops. -/
  | outsideImage
  /-- Raised by the GPD item step when no primitive is open or its tag has no such register slot (R412 supposes both).
  Safe: the model stops. -/
  | noOpenPrimitive
deriving DecidableEq, Repr

/-- A call to which the model gives no meaning (R13, R511, R513). Raised when the host calls a port outside its
precondition; never by an instruction. Safe: the run ends with the mark. -/
inductive Refusal where
  /-- An instruction with no meaning yet; raised by no arm of exec. -/
  | notModelled (mnemonic : String)
  /-- `BadBounds` (R143): `extract` outside `lowBit ≤ highBit ≤ 63`. Safe. -/
  | badBounds
  /-- `BadFetch` (R173): `decodePairAt` of an invalid image, a misaligned address, or past the image's end. Safe. -/
  | badFetch
  /-- `BadWindow` (R401): a GS window that does not lie inside the image. Safe. -/
  | badWindow
  /-- `InvalidComponent` (R36, R511): reading a snapshot component whose valid bit is 0. Safe. -/
  | invalidComponent
  /-- The host names a snapshot that no finished `traceRead` returned (R467, R546; log 12). Safe. -/
  | noSnapshot
  /-- The host supplies an image that is not 16384 bytes in canonical form (R400, R546; log 12). Safe. -/
  | badImage
deriving DecidableEq, Repr

/-- The block after reset (R541, R542, R544): the parameters suggested by R6 (PRESUMED, log 5), no call in progress and
none queued (log 4), and the call arguments of TSR and GPD empty until a call supplies them (DESIGN CHOICE, log 8). -/
def State.reset : State where
  params := Params.suggested
  requests := []
  active := .idle
  bfxOut := none
  idec := IdecPort.clear
  gpd := Gpd.start [] 0 0
  tsr := Tsr.start []
  exh := Exh.reset

end Sys2Proof.Machine
end

