-- ==== Sys2Proof/Machine/Sparse.lean ====
section
/-! DEFINITION. Sparse maps in one canonical form: byte images (R46), EXH's records and its edge maps (R43, R494). -/

namespace Sys2Proof.Machine

/-- The value under a key, `d` where the key is absent. -/
def Sparse.get {α : Type} (d : α) : Sparse α → Nat → α
  | [], _ => d
  | (k, v) :: rest, key => if key = k then v else Sparse.get d rest key

/-- The map with `v` under `key`. Writing `d` removes the entry, so equal maps are equal lists. -/
def Sparse.set {α : Type} [DecidableEq α] (d : α) (key : Nat) (v : α) : Sparse α → Sparse α
  | [] => if v = d then [] else [(key, v)]
  | (k, u) :: rest =>
    if key < k then (if v = d then (k, u) :: rest else (key, v) :: (k, u) :: rest)
    else if key = k then (if v = d then rest else (k, v) :: rest)
    else (k, u) :: Sparse.set d key v rest

/-- The canonical form: keys strictly rising from `lo`, all below `hi`, and no value `d`. -/
def Sparse.wf {α : Type} [DecidableEq α] (d : α) (lo hi : Nat) : Sparse α → Bool
  | [] => true
  | (k, v) :: rest => decide (lo ≤ k) && decide (k < hi) && decide (v ≠ d) && Sparse.wf d (k + 1) hi rest

/-- The sum of a count map's values (R497). -/
def Sparse.total : Sparse Nat → Nat
  | [] => 0
  | (_, n) :: rest => n + Sparse.total rest

/-! ### Byte images -/

/-- What an unlisted address of an image reads as (log 9). -/
abbrev unlistedByte : Byte := 0

/-- The byte of an image at an address. -/
def Image.byte (img : Image) (a : Nat) : Byte := Sparse.get unlistedByte img a

/-- The image whose byte `at_ + i` is byte `i` of a payload (R118): "image <- payload" (R12). -/
def Image.ofBytesFrom (at_ : Nat) : List Byte → Image
  | [] => []
  | b :: rest =>
    if b = unlistedByte then Image.ofBytesFrom (at_ + 1) rest else (at_, b) :: Image.ofBytesFrom (at_ + 1) rest

/-- The image a payload holds (R118, R456 to R458). -/
def Image.ofBytes (payload : List Byte) : Image := Image.ofBytesFrom 0 payload

/-- The canonical form of an image of `size` bytes. -/
def Image.wf (size : Nat) (img : Image) : Bool := Sparse.wf unlistedByte 0 size img

/-- `n` bytes of an image from address `a` up, with no bound. -/
def Image.bytesFrom (img : Image) (a : Nat) : Nat → List Byte
  | 0 => []
  | n + 1 => Image.byte img a :: Image.bytesFrom img (a + 1) n

/-- `MemRead(img, a, n)` (R12) of an image of `size` bytes: defined only when `a + n ≤ size`. -/
def memRead (img : Image) (size a n : Nat) : Option (List Byte) :=
  if a + n ≤ size then some (Image.bytesFrom img a n) else none

end Sys2Proof.Machine
end

