-- ==== Sys2Proof/Machine/Ops.lean ====
section
/-! DEFINITION. The named operations over the state: reads of a snapshot's components (R31 to R38), the writes of each
unit, the raising of an outcome (R516: one status field, nothing saved, no control transferred, nothing to return from,
R517), and what the host reads (R48, R450, R467). -/

namespace Sys2Proof.Machine

/-! ### Reading a captured register file (R31, R32, R35, R38) -/

/-- Lane `k` (0 to 3 for x to w) of `VF[n]` (R31); `none` where the register block is invalid (R36). -/
def Snapshot.vfLane (p : Params) (s : Snapshot) (n k : Nat) : Option Word :=
  if s.regsValid then (memRead s.regs p.regBlockBytes (16 * n + 4 * k) 4).map le32 else none

/-- The bytes of `VI[n]` (R32, R38); `none` where the register block is invalid (R36). -/
def Snapshot.viBytes (p : Params) (s : Snapshot) (n : Nat) : Option (List Byte) :=
  if s.regsValid then memRead s.regs p.regBlockBytes (512 + p.sregBytes * n) p.sregBytes else none

/-- The offset of the captured program counter in the register block (R35, R38, R492). -/
def pcOffset (p : Params) : Nat := 512 + p.sregBytes * p.pcIndex.val

/-- `LE32(s.regs, 512 + SREG_BYTES * PC_INDEX)` (R35, R492), whatever the valid bit says. -/
def Snapshot.pcBytes (p : Params) (s : Snapshot) : Option Word :=
  (memRead s.regs p.regBlockBytes (pcOffset p) 4).map le32

/-- The captured program counter of a snapshot (R35); `none` where the register block is invalid (R36, R498). -/
def Snapshot.pc (p : Params) (s : Snapshot) : Option Word :=
  if s.regsValid then s.pcBytes p else none

/-! ### Writes -/

/-- The state with another accumulator (R39). -/
def State.setAcc (s : State) (acc : Snapshot) : State := { s with tsr := { s.tsr with acc := acc } }

/-- The state with another EXH state. -/
def State.setExh (s : State) (e : Exh) : State := { s with exh := e }

/-- Append a copy of the accumulator to the committed snapshots (R455, item 1). -/
def State.appendSnapshot (s : State) : State :=
  { s with tsr := { s.tsr with snapshots := s.tsr.snapshots ++ [s.tsr.acc] } }

/-- Clear the accumulator's pending fields (R455, item 3). -/
def State.clearPending (s : State) : State :=
  s.setAcc { s.tsr.acc with pendingLoad := none, pendingStore := none }

/-- Move TSR's cursor (R452). -/
def State.setCursor (s : State) (c : Nat) : State := { s with tsr := { s.tsr with cursor := c } }

/-- The state with another GPD state. -/
def State.setGpd (s : State) (g : Gpd) : State := { s with gpd := g }

/-- Put a result on IDEC's lower output. -/
def State.setLowerRes (s : State) (r : PairLower) : State :=
  { s with idec := { s.idec with lowerRes := some r } }

/-- Put a result on IDEC's upper output. -/
def State.setUpperRes (s : State) (r : WordResult) : State :=
  { s with idec := { s.idec with upperRes := some r } }

/-! ### Ending a call, and raising an outcome (R513, R516, R517) -/

/-- `traceRead` ends with `Done` (R466). -/
def State.traceDone (s : State) : State := { s with active := .idle, tsr := { s.tsr with status := .done } }

/-- `raise Fatal(d)` (R13, R516): the status alone, and the call is over (R467, R518). -/
def State.raiseFatal (s : State) (d : TsrDiag) : State :=
  { s with active := .idle, tsr := { s.tsr with status := .fatal d } }

/-- `gsDecode` ends `Complete` (R416). -/
def Gpd.finish (g : Gpd) : Gpd := { g with phase := .tag, status := .complete }

/-- `stop Partial(d)` (R13, R516): the status alone; the packet built so far stays (R419). -/
def Gpd.stopPartial (g : Gpd) (d : GpdDiag) : Gpd := { g with status := .partialEnd d }

/-- An EXH fault mark (R500, R516): the field `fault` alone. -/
def Exh.raise (e : Exh) (d : ExhDiag) : Exh := { e with fault := some d }

/-- The diagnostic codes of R511. -/
def TsrDiag.code : TsrDiag → Nat
  | .badTag _ _ => 0x01
  | .truncated _ _ _ _ => 0x02

/-- The diagnostic codes of R511. -/
def GpdDiag.code : GpdDiag → Nat
  | .overrun _ _ => 0x11
  | .unsupportedMode _ => 0x12

/-- The diagnostic codes of R511. -/
def ExhDiag.code : ExhDiag → Nat
  | .pcUnavailable _ => 0x21
  | .pcOutOfRange _ _ => 0x22

/-- The diagnostic codes of R511, where it gives one. -/
def Refusal.code : Refusal → Option Nat
  | .badBounds => some 0x31
  | .badFetch => some 0x32
  | .badWindow => some 0x33
  | .invalidComponent => some 0x34
  | _ => none

/-! ### What the host reads (R48, R49) -/

/-- The result of `traceRead` (R450). -/
inductive TraceResult where
  | done (snapshots : List Snapshot) (history : Option Exh)
  | fatal (diag : TsrDiag)
deriving DecidableEq, Repr

/-- What `traceRead` has returned: after a fatal only the diagnostic (R467); the history when EXH is present (R505). -/
def State.traceResult (s : State) : Option TraceResult :=
  match s.tsr.status with
  | .running => none
  | .done => some (.done s.tsr.snapshots (if s.params.hasExh then some s.exh else none))
  | .fatal d => some (.fatal d)

/-- The snapshots the host holds: those of a `traceRead` that returned `Done` (R467, R546). -/
def State.hostSnapshots (s : State) : List Snapshot :=
  if s.tsr.status = .done then s.tsr.snapshots else []

/-- What `gsDecode` has returned: the packet, and the diagnostic of a partial one (R400). -/
def State.gsResult (s : State) : Option (List GsPrimitive × Option GpdDiag) :=
  match s.gpd.status with
  | .running => none
  | .complete => some (s.gpd.packet, none)
  | .partialEnd d => some (s.gpd.packet, some d)

/-- The snapshot the host names (R527, R546); refused where there is none (log 12). -/
def State.resolve (s : State) : SnapshotRef → Except Refusal Snapshot
  | .supplied x => .ok x
  | .committed k =>
    match s.hostSnapshots[k]? with
    | some x => .ok x
    | none => .error .noSnapshot

end Sys2Proof.Machine
end

