-- ==== Sys2Proof/Machine/Gpd.lean ====
section
/-! DEFINITION. GPD, the GS packet decoder (46_gs_packet_decoder): one 16-byte beat a step (R403). -/

namespace Sys2Proof.Machine

/-! ### Tag fields (R110 to R112, R405 to R409) -/

/-- The transfer mode of FLG (R112, R407): every value is defined. -/
def modeOf (flg : BitVec 2) : Mode :=
  if flg = 0 then .packed else if flg = 1 then .regList else if flg = 2 then .image else .disable

/-- The sub-fields of PRIM (R111, R406). -/
def primStateOf (p : BitVec 11) : PrimState where
  type := bits 0 3 p
  iip := p.getLsbD 3
  tme := p.getLsbD 4
  fge := p.getLsbD 5
  abe := p.getLsbD 6
  aa1 := p.getLsbD 7
  fst := p.getLsbD 8
  ctxt := p.getLsbD 9
  fix := p.getLsbD 10

/-- The effective register count (R408): a declared count of 0 means 16. -/
def effectiveCount (nreg : BitVec 4) : Nat := if nreg = 0 then 16 else nreg.toNat

/-- The register list: nibble `i` of the high half, for `i < n` (R409). -/
def registerList (hi : DWord) (n : Nat) : List (BitVec 4) := (List.range n).map fun i => bits (4 * i) 4 hi

/-- The tag of a beat (R405, with the positions of R110). -/
def tagOfBeat (lo hi : DWord) : GsTag where
  nloop := bits 0 15 lo
  eop := lo.getLsbD 15
  pre := lo.getLsbD 46
  prim := bits 47 11 lo
  primState := primStateOf (bits 47 11 lo)
  mode := modeOf (bits 58 2 lo)
  nreg := bits 60 4 lo
  regs := registerList hi (effectiveCount (bits 60 4 lo))

/-- The number of items a tag declares: `nloop * n` (R405, R412). -/
def GsTag.itemCount (t : GsTag) : Nat := t.nloop.toNat * t.regs.length

/-! ### Items (R412 to R415) -/

/-- The structured reading of an item (R413 to R415, with the positions of R114, R115 and R147). `x` and `y` are
sign-extended, as the document says (conflict C13). -/
def interpret (reg : BitVec 4) (lo hi : DWord) : GsDecoded :=
  if reg = 0xE then .ad (bits 0 8 hi) lo
  else if reg = 0x4 then
    .xyzf2 (bits 0 16 lo).toInt (bits 32 16 lo).toInt (bits 4 24 hi) (bits 36 8 hi) (hi.getLsbD 47)
  else .raw

/-- Append an item to the last primitive (R410). -/
def appendItem : List GsPrimitive → GsItem → List GsPrimitive
  | [], _ => []
  | [p], item => [{ p with items := p.items ++ [item] }]
  | p :: q :: rest, item => p :: appendItem (q :: rest) item

/-! ### The step (R404, R405, R412) -/

/-- The beat a phase reads (R404). -/
def Phase.beat : Phase → Beat
  | .tag => .tagBeat
  | .items l r => .itemBeat l r

/-- A beat is consumed and its tag opens a primitive without items (R405, R410). -/
def Gpd.openPrimitive (g : Gpd) (t : GsTag) : Gpd :=
  { g with cursor := g.cursor + 16, packet := g.packet ++ [{ tag := t, items := [] }] }

/-- A beat is consumed and appended to the last primitive as an item (R410, R412). -/
def Gpd.addItem (g : Gpd) (item : GsItem) : Gpd :=
  { g with cursor := g.cursor + 16, packet := appendItem g.packet item }

/-- GPD with another phase (R41). -/
def Gpd.setPhase (g : Gpd) (p : Phase) : Gpd := { g with phase := p }

/-- GPD after a tag beat (R405): the tag is appended (R410), a non-Packed mode ends the decode (R411), and a tag with no
items goes straight to the completion test (R416, R423). -/
def Gpd.tagStep (g : Gpd) (t : GsTag) : Gpd :=
  let opened := g.openPrimitive t
  if t.mode ≠ .packed then opened.stopPartial (.unsupportedMode t.mode)
  else if t.itemCount = 0 then (if t.eop then opened.finish else opened.setPhase .tag)
  else opened.setPhase (.items 0 0)

/-- GPD after the last item of a loop's slot `r`: loop-major order (R412), then the completion test (R416). -/
def Gpd.afterItem (g : Gpd) (t : GsTag) (l r : Nat) : Gpd :=
  if r + 1 < t.regs.length then g.setPhase (.items l (r + 1))
  else if l + 1 < t.nloop.toNat then g.setPhase (.items (l + 1) 0)
  else if t.eop then g.finish
  else g.setPhase .tag

/-- The item read under register code `reg` at GPD's cursor (R412). -/
def Gpd.itemAt (g : Gpd) (reg : BitVec 4) (raw : List Byte) : GsItem where
  addr := g.base + g.cursor
  reg := reg
  raw := raw
  decoded := interpret reg (le64 raw) (le64 (raw.drop 8))

/-- GPD after an item beat (R412). -/
def Gpd.itemStep (g : Gpd) (l r : Nat) (raw : List Byte) : Except Fault Gpd :=
  match g.packet.getLast? with
  | none => .error .noOpenPrimitive
  | some prim =>
    match prim.tag.regs[r]? with
    | none => .error .noOpenPrimitive
    | some reg => .ok ((g.addItem (g.itemAt reg raw)).afterItem prim.tag l r)

/-- One step of GPD: the bound check first (R404, R422), then one beat (R403), two little-endian halves, the low one
first (R71). -/
def Gpd.step (g : Gpd) : Except Fault Gpd :=
  if g.limit < g.cursor + 16 then .ok (g.stopPartial (.overrun g.phase.beat g.cursor))
  else
    match memRead g.dmem dataBytes (g.base + g.cursor) 16 with
    | none => .error .outsideImage
    | some raw =>
      match g.phase with
      | .tag => .ok (g.tagStep (tagOfBeat (le64 raw) (le64 (raw.drop 8))))
      | .items l r => g.itemStep l r raw

/-- One step of a `gsDecode` in progress; the call is over when the status is terminal (R400, R518). -/
def gpdStep (s : State) : Host.Outcome State Fault Refusal :=
  if s.gpd.status = .running then
    match s.gpd.step with
    | .ok g => .next { s with gpd := g, active := if g.status = .running then .packet else .idle }
    | .error f => .fault f
  else .next { s with active := .idle }

/-- `gsDecode(dmem, startOffset, availableBytes)` begins (R400, R401, R541): GPD is reset. -/
def gsDecodeCall (ref : SnapshotRef) (startOffset availableBytes : Nat) (s : State) : Host.Outcome State Fault Refusal :=
  match s.resolve ref with
  | .error r => .refused r
  | .ok x =>
    if x.dmemValid = false then .refused .invalidComponent
    else if dataBytes < startOffset + availableBytes then .refused .badWindow
    else if Image.wf dataBytes x.dmem then
      .next { s with gpd := Gpd.start x.dmem startOffset availableBytes, active := .packet }
    else .refused .badImage

/-! ### Display names (R113, R420) -/

/-- `modeName(m)` (R420). -/
def modeName : Mode → String
  | .packed => "Packed"
  | .regList => "RegList"
  | .image => "Image"
  | .disable => "Disable"

/-- `regName(c)` (R113, R420). -/
def regName (c : BitVec 4) : String :=
  ["PRIM", "RGBAQ", "ST", "UV", "XYZF2", "XYZ2", "TEX0_1", "TEX0_2", "CLAMP_1", "CLAMP_2", "FOG", "RESERVED", "XYZF3",
    "XYZ3", "AD", "NOP"].getD c.toNat ""

end Sys2Proof.Machine
end

