-- ==== Sys2Proof/Machine/Operands.lean ====
section
/-! DEFINITION. The mnemonic formatter (41 R162 to R167): number and operand rendering, the component-mask suffix, the
branch target, line assembly, and what a row puts on IDEC's port (R151, R160). The text syntax is the spec's D4 and D13. -/

namespace Sys2Proof.Machine

/-- `dec(n)` (R14). -/
def dec (n : Nat) : String := Nat.repr n

/-- `sdec(n)` (R14): decimal, with a leading "-" when negative. -/
def sdec (n : Int) : String := if n < 0 then "-" ++ dec n.natAbs else dec n.natAbs

/-- `hex(n)` (R14): "0x" and lowercase digits without padding. -/
def hex (n : Nat) : String := "0x" ++ String.ofList (Nat.toDigits 16 n)

/-- `comp(v)` (R164): the letter of a lane, 0 for x to 3 for w (R98). -/
def comp (v : BitVec 2) : String :=
  if v = 0 then "x" else if v = 1 then "y" else if v = 2 then "z" else "w"

/-- `DEST0_SUFFIX` (R6, R163, D5): the text of a component mask of 0. -/
def dest0Suffix : String := ""

/-- `destSuffix(dest)` (R163): the letters of the set bits, x (bit 3), y, z, w (bit 0) (R97). -/
def destSuffix (dest : BitVec 4) : String :=
  if dest = 0 then dest0Suffix
  else "." ++ (if dest.getLsbD 3 then "x" else "") ++ (if dest.getLsbD 2 then "y" else "")
    ++ (if dest.getLsbD 1 then "z" else "") ++ (if dest.getLsbD 0 then "w" else "")

/-- The branch target (R162, D10): on unbounded integers, floored, masked modulo the program's words. -/
def branchTarget (address : Word) (imm11 : BitVec 11) : Nat :=
  (((((address.toNat / 4 : Nat) : Int) + 2) + imm11.toInt * 2) % (progWords : Int)).toNat * 4

/-- Every value of R95 and R96 for a word (R151, R160), with its target. -/
def Fields.ofWord (w : Word) (target : Option Nat) : Fields where
  dest := Field.dest w
  ft := Field.ft w
  fs := Field.fs w
  fd := Field.fd w
  it := Field.it w
  is := Field.is w
  id := Field.id w
  bc := Field.bc w
  fsf := Field.fsf w
  ftf := Field.ftf w
  imm5 := (Field.imm5 w).toInt
  imm11 := (Field.imm11 w).toInt
  imm12 := (Field.imm12 w).toInt
  imm15 := (Field.imm15 w).toInt
  imm24 := (Field.imm24 w).toNat
  target := target

/-- The fields of an upper word: no target, and no use of the address (R152, R162). -/
def Fields.ofUpper (w : Word) : Fields := Fields.ofWord w none

/-- The fields of a lower word, with the target of R162. -/
def Fields.ofLower (w address : Word) : Fields := Fields.ofWord w (some (branchTarget address (Field.imm11 w)))

/-- An operand token of a row's template (R165, R166). -/
inductive Operand where
  | vf (r : BitVec 5)
  | vfc (r : BitVec 5) (c : BitVec 2)
  | vi (r : BitVec 4)
  | vi1
  | acc
  | q
  | i
  | p
  | r
  | simm (v : Int)
  | uimm (v : Nat)
  | target (byteAddress : Nat)
  | memOff (imm : Int) (base : BitVec 4)
  | memBase (base : BitVec 4)
  | memInc (base : BitVec 4)
  | memDec (base : BitVec 4)
deriving DecidableEq, Repr

/-- The text of a token (R165, R166). -/
def render : Operand → String
  | .vf r => "vf" ++ dec r.toNat
  | .vfc r c => "vf" ++ dec r.toNat ++ comp c
  | .vi r => "vi" ++ dec r.toNat
  | .vi1 => "vi1"
  | .acc => "ACC"
  | .q => "Q"
  | .i => "I"
  | .p => "P"
  | .r => "R"
  | .simm v => sdec v
  | .uimm v => dec v
  | .target t => hex t
  | .memOff imm base => sdec imm ++ "(vi" ++ dec base.toNat ++ ")"
  | .memBase base => "(vi" ++ dec base.toNat ++ ")"
  | .memInc base => "(vi" ++ dec base.toNat ++ "++)"
  | .memDec base => "(--vi" ++ dec base.toNat ++ ")"

/-- `join(", ", list)` (R14). -/
def joinComma : List String → String
  | [] => ""
  | [s] => s
  | s :: rest => s ++ ", " ++ joinComma rest

/-- Line assembly (R167); `dest` is given for the rows with `hasDest`. -/
def lineText (mnemonic : String) (dest : Option (BitVec 4)) (ops : List Operand) : String :=
  mnemonic
    ++ (match dest with
        | some d => destSuffix d
        | none => "")
    ++ (match ops with
        | [] => ""
        | _ => " " ++ joinComma (ops.map render))

/-- The text of the sentinel (R105, R159). -/
def badText : String := "bad instruction"

/-- The text of a result (R151, R159). -/
def WordResult.text : WordResult → String
  | .instr _ _ text => text
  | .bad => badText

/-- The text of a pair's lower half (R168). -/
def PairLower.text : PairLower → String
  | .word r => r.text
  | .immFloat _ text => text

/-- `Instr(row, f, text)` of an upper row on the port: f from the upper word (R152, R160). -/
def State.putUpper (s : State) (row : String) (dest : Option (BitVec 4)) (ops : List Operand) : State :=
  s.setUpperRes (.instr row (Fields.ofUpper s.idec.upper) (lineText row dest ops))

/-- `Instr(row, f, text)` of a lower row on the port: f from the lower word and its address (R151, R160). -/
def State.putLower (s : State) (row : String) (dest : Option (BitVec 4)) (ops : List Operand) : State :=
  s.setLowerRes (.word (.instr row (Fields.ofLower s.idec.lower s.idec.lowerAddr) (lineText row dest ops)))

/-- The suggested value of FMT_IMMFLOAT (R170): `"0x" ++ hex8(bits)`, eight lowercase digits (R14). No part of the model
uses it: the parameter stays open (log 6). -/
def hexImmFloat (bits : Word) : String :=
  "0x" ++ String.ofList (List.replicate (8 - (Nat.toDigits 16 bits.toNat).length) '0' ++ Nat.toDigits 16 bits.toNat)

end Sys2Proof.Machine
end

