-- ==== Sys2Proof/Machine/LowerMain.lean ====
section
/-! DEFINITION. The meanings of the 33 lower-word instructions of tables LOWER and LOWEROP (44_vu_lower_main, R300 to R332). The effect the spec gives each is its decode: the row, the
fields f, and the text of its operand template on the IDEC port; no flag is written and no exception raised (41 R160, R176).
The VU's own execution is outside the spec's scope (00_scope R5). -/

namespace Sys2Proof.Machine

/-- `LQ` (R300). -/
def execLq (dest : BitVec 4) (ft : BitVec 5) (imm11 : BitVec 11) (is : BitVec 4) (s : State) : Host.Outcome State Fault Refusal :=
  .next (s.putLower "LQ" (some dest) [.vf ft, .memOff imm11.toInt is])

/-- `SQ` (R301). -/
def execSq (dest : BitVec 4) (fs : BitVec 5) (imm11 : BitVec 11) (it : BitVec 4) (s : State) : Host.Outcome State Fault Refusal :=
  .next (s.putLower "SQ" (some dest) [.vf fs, .memOff imm11.toInt it])

/-- `ILW` (R302). -/
def execIlw (dest it : BitVec 4) (imm11 : BitVec 11) (is : BitVec 4) (s : State) : Host.Outcome State Fault Refusal :=
  .next (s.putLower "ILW" (some dest) [.vi it, .memOff imm11.toInt is])

/-- `ISW` (R303). -/
def execIsw (dest it : BitVec 4) (imm11 : BitVec 11) (is : BitVec 4) (s : State) : Host.Outcome State Fault Refusal :=
  .next (s.putLower "ISW" (some dest) [.vi it, .memOff imm11.toInt is])

/-- `IADDIU` (R304). -/
def execIaddiu (it is : BitVec 4) (imm15 : BitVec 15) (s : State) : Host.Outcome State Fault Refusal :=
  .next (s.putLower "IADDIU" none [.vi it, .vi is, .simm imm15.toInt])

/-- `ISUBIU` (R305). -/
def execIsubiu (it is : BitVec 4) (imm15 : BitVec 15) (s : State) : Host.Outcome State Fault Refusal :=
  .next (s.putLower "ISUBIU" none [.vi it, .vi is, .simm imm15.toInt])

/-- `FCEQ` (R306). -/
def execFceq (imm24 : BitVec 24) (s : State) : Host.Outcome State Fault Refusal :=
  .next (s.putLower "FCEQ" none [.vi1, .uimm imm24.toNat])

/-- `FCSET` (R307). -/
def execFcset (imm24 : BitVec 24) (s : State) : Host.Outcome State Fault Refusal :=
  .next (s.putLower "FCSET" none [.uimm imm24.toNat])

/-- `FCAND` (R308). -/
def execFcand (imm24 : BitVec 24) (s : State) : Host.Outcome State Fault Refusal :=
  .next (s.putLower "FCAND" none [.vi1, .uimm imm24.toNat])

/-- `FCOR` (R309). -/
def execFcor (imm24 : BitVec 24) (s : State) : Host.Outcome State Fault Refusal :=
  .next (s.putLower "FCOR" none [.vi1, .uimm imm24.toNat])

/-- `FSEQ` (R310). -/
def execFseq (it : BitVec 4) (imm12 : BitVec 12) (s : State) : Host.Outcome State Fault Refusal :=
  .next (s.putLower "FSEQ" none [.vi it, .simm imm12.toInt])

/-- `FSSET` (R311). -/
def execFsset (imm12 : BitVec 12) (s : State) : Host.Outcome State Fault Refusal :=
  .next (s.putLower "FSSET" none [.simm imm12.toInt])

/-- `FSAND` (R312). -/
def execFsand (it : BitVec 4) (imm12 : BitVec 12) (s : State) : Host.Outcome State Fault Refusal :=
  .next (s.putLower "FSAND" none [.vi it, .simm imm12.toInt])

/-- `FSOR` (R313). -/
def execFsor (it : BitVec 4) (imm12 : BitVec 12) (s : State) : Host.Outcome State Fault Refusal :=
  .next (s.putLower "FSOR" none [.vi it, .simm imm12.toInt])

/-- `FMEQ` (R314). -/
def execFmeq (it is : BitVec 4) (s : State) : Host.Outcome State Fault Refusal :=
  .next (s.putLower "FMEQ" none [.vi it, .vi is])

/-- `FMAND` (R315). -/
def execFmand (it is : BitVec 4) (s : State) : Host.Outcome State Fault Refusal :=
  .next (s.putLower "FMAND" none [.vi it, .vi is])

/-- `FMOR` (R316). -/
def execFmor (it is : BitVec 4) (s : State) : Host.Outcome State Fault Refusal :=
  .next (s.putLower "FMOR" none [.vi it, .vi is])

/-- `FCGET` (R317). -/
def execFcget (it : BitVec 4) (s : State) : Host.Outcome State Fault Refusal :=
  .next (s.putLower "FCGET" none [.vi it])

/-- `B` (R318). -/
def execB (imm11 : BitVec 11) (s : State) : Host.Outcome State Fault Refusal :=
  .next (s.putLower "B" none [.target (branchTarget s.idec.lowerAddr imm11)])

/-- `BAL` (R319). -/
def execBal (it : BitVec 4) (imm11 : BitVec 11) (s : State) : Host.Outcome State Fault Refusal :=
  .next (s.putLower "BAL" none [.vi it, .target (branchTarget s.idec.lowerAddr imm11)])

/-- `JR` (R320). -/
def execJr (is : BitVec 4) (s : State) : Host.Outcome State Fault Refusal :=
  .next (s.putLower "JR" none [.vi is])

/-- `JALR` (R321). -/
def execJalr (it is : BitVec 4) (s : State) : Host.Outcome State Fault Refusal :=
  .next (s.putLower "JALR" none [.vi it, .vi is])

/-- `IBEQ` (R322). -/
def execIbeq (it is : BitVec 4) (imm11 : BitVec 11) (s : State) : Host.Outcome State Fault Refusal :=
  .next (s.putLower "IBEQ" none [.vi it, .vi is, .target (branchTarget s.idec.lowerAddr imm11)])

/-- `IBNE` (R323). -/
def execIbne (it is : BitVec 4) (imm11 : BitVec 11) (s : State) : Host.Outcome State Fault Refusal :=
  .next (s.putLower "IBNE" none [.vi it, .vi is, .target (branchTarget s.idec.lowerAddr imm11)])

/-- `IBLTZ` (R324). -/
def execIbltz (is : BitVec 4) (imm11 : BitVec 11) (s : State) : Host.Outcome State Fault Refusal :=
  .next (s.putLower "IBLTZ" none [.vi is, .target (branchTarget s.idec.lowerAddr imm11)])

/-- `IBGTZ` (R325). -/
def execIbgtz (is : BitVec 4) (imm11 : BitVec 11) (s : State) : Host.Outcome State Fault Refusal :=
  .next (s.putLower "IBGTZ" none [.vi is, .target (branchTarget s.idec.lowerAddr imm11)])

/-- `IBLEZ` (R326). -/
def execIblez (is : BitVec 4) (imm11 : BitVec 11) (s : State) : Host.Outcome State Fault Refusal :=
  .next (s.putLower "IBLEZ" none [.vi is, .target (branchTarget s.idec.lowerAddr imm11)])

/-- `IBGEZ` (R327). -/
def execIbgez (is : BitVec 4) (imm11 : BitVec 11) (s : State) : Host.Outcome State Fault Refusal :=
  .next (s.putLower "IBGEZ" none [.vi is, .target (branchTarget s.idec.lowerAddr imm11)])

/-- `IADD` (R328). -/
def execIadd (id is it : BitVec 4) (s : State) : Host.Outcome State Fault Refusal :=
  .next (s.putLower "IADD" none [.vi id, .vi is, .vi it])

/-- `ISUB` (R329). -/
def execIsub (id is it : BitVec 4) (s : State) : Host.Outcome State Fault Refusal :=
  .next (s.putLower "ISUB" none [.vi id, .vi is, .vi it])

/-- `IADDI` (R330). -/
def execIaddi (it is : BitVec 4) (imm5 : BitVec 5) (s : State) : Host.Outcome State Fault Refusal :=
  .next (s.putLower "IADDI" none [.vi it, .vi is, .simm imm5.toInt])

/-- `IAND` (R331). -/
def execIand (id is it : BitVec 4) (s : State) : Host.Outcome State Fault Refusal :=
  .next (s.putLower "IAND" none [.vi id, .vi is, .vi it])

/-- `IOR` (R332). -/
def execIor (id is it : BitVec 4) (s : State) : Host.Outcome State Fault Refusal :=
  .next (s.putLower "IOR" none [.vi id, .vi is, .vi it])

end Sys2Proof.Machine
end

