-- ==== Sys2Proof/Machine/LowerSpecial.lean ====
section
/-! DEFINITION. The meanings of the 36 lower-word special forms of tables T3_00 to T3_11 (45_vu_lower_special, R333 to R368). The effect the spec gives each is its decode: the row, the
fields f, and the text of its operand template on the IDEC port; no flag is written and no exception raised (41 R160, R176).
The VU's own execution is outside the spec's scope (00_scope R5). -/

namespace Sys2Proof.Machine

/-- `MOVE` (R333). -/
def execMove (dest : BitVec 4) (ft fs : BitVec 5) (s : State) : Host.Outcome State Fault Refusal :=
  .next (s.putLower "MOVE" (some dest) [.vf ft, .vf fs])

/-- `LQI` (R334). -/
def execLqi (dest : BitVec 4) (ft : BitVec 5) (is : BitVec 4) (s : State) : Host.Outcome State Fault Refusal :=
  .next (s.putLower "LQI" (some dest) [.vf ft, .memInc is])

/-- `DIV` (R335). -/
def execDiv (fs : BitVec 5) (fsf : BitVec 2) (ft : BitVec 5) (ftf : BitVec 2) (s : State) : Host.Outcome State Fault Refusal :=
  .next (s.putLower "DIV" none [.q, .vfc fs fsf, .vfc ft ftf])

/-- `MTIR` (R336). -/
def execMtir (it : BitVec 4) (fs : BitVec 5) (fsf : BitVec 2) (s : State) : Host.Outcome State Fault Refusal :=
  .next (s.putLower "MTIR" none [.vi it, .vfc fs fsf])

/-- `RNEXT` (R337). -/
def execRnext (dest : BitVec 4) (ft : BitVec 5) (s : State) : Host.Outcome State Fault Refusal :=
  .next (s.putLower "RNEXT" (some dest) [.vf ft, .r])

/-- `MFP` (R338). -/
def execMfp (dest : BitVec 4) (ft : BitVec 5) (s : State) : Host.Outcome State Fault Refusal :=
  .next (s.putLower "MFP" (some dest) [.vf ft, .p])

/-- `XTOP` (R339). -/
def execXtop (it : BitVec 4) (s : State) : Host.Outcome State Fault Refusal :=
  .next (s.putLower "XTOP" none [.vi it])

/-- `XGKICK` (R340). -/
def execXgkick (is : BitVec 4) (s : State) : Host.Outcome State Fault Refusal :=
  .next (s.putLower "XGKICK" none [.vi is])

/-- `ESADD` (R341). -/
def execEsadd (fs : BitVec 5) (s : State) : Host.Outcome State Fault Refusal :=
  .next (s.putLower "ESADD" none [.p, .vf fs])

/-- `EATANxy` (R342). -/
def execEatanxy (fs : BitVec 5) (s : State) : Host.Outcome State Fault Refusal :=
  .next (s.putLower "EATANxy" none [.p, .vf fs])

/-- `ESQRT` (R343). -/
def execEsqrt (fs : BitVec 5) (fsf : BitVec 2) (s : State) : Host.Outcome State Fault Refusal :=
  .next (s.putLower "ESQRT" none [.p, .vfc fs fsf])

/-- `ESIN` (R344). -/
def execEsin (fs : BitVec 5) (fsf : BitVec 2) (s : State) : Host.Outcome State Fault Refusal :=
  .next (s.putLower "ESIN" none [.p, .vfc fs fsf])

/-- `MR32` (R345). -/
def execMr32 (dest : BitVec 4) (ft fs : BitVec 5) (s : State) : Host.Outcome State Fault Refusal :=
  .next (s.putLower "MR32" (some dest) [.vf ft, .vf fs])

/-- `SQI` (R346). -/
def execSqi (dest : BitVec 4) (fs : BitVec 5) (it : BitVec 4) (s : State) : Host.Outcome State Fault Refusal :=
  .next (s.putLower "SQI" (some dest) [.vf fs, .memInc it])

/-- `SQRT` (R347). -/
def execSqrt (ft : BitVec 5) (ftf : BitVec 2) (s : State) : Host.Outcome State Fault Refusal :=
  .next (s.putLower "SQRT" none [.q, .vfc ft ftf])

/-- `MFIR` (R348). -/
def execMfir (dest : BitVec 4) (ft : BitVec 5) (is : BitVec 4) (s : State) : Host.Outcome State Fault Refusal :=
  .next (s.putLower "MFIR" (some dest) [.vf ft, .vi is])

/-- `RGET` (R349). -/
def execRget (dest : BitVec 4) (ft : BitVec 5) (s : State) : Host.Outcome State Fault Refusal :=
  .next (s.putLower "RGET" (some dest) [.vf ft, .r])

/-- `XITOP` (R350). -/
def execXitop (it : BitVec 4) (s : State) : Host.Outcome State Fault Refusal :=
  .next (s.putLower "XITOP" none [.vi it])

/-- `ERSADD` (R351). -/
def execErsadd (fs : BitVec 5) (s : State) : Host.Outcome State Fault Refusal :=
  .next (s.putLower "ERSADD" none [.p, .vf fs])

/-- `EATANxz` (R352). -/
def execEatanxz (fs : BitVec 5) (s : State) : Host.Outcome State Fault Refusal :=
  .next (s.putLower "EATANxz" none [.p, .vf fs])

/-- `ERSQRT` (R353). -/
def execErsqrt (fs : BitVec 5) (fsf : BitVec 2) (s : State) : Host.Outcome State Fault Refusal :=
  .next (s.putLower "ERSQRT" none [.p, .vfc fs fsf])

/-- `EATAN` (R354). -/
def execEatan (fs : BitVec 5) (fsf : BitVec 2) (s : State) : Host.Outcome State Fault Refusal :=
  .next (s.putLower "EATAN" none [.p, .vfc fs fsf])

/-- `LQD` (R355). -/
def execLqd (dest : BitVec 4) (ft : BitVec 5) (is : BitVec 4) (s : State) : Host.Outcome State Fault Refusal :=
  .next (s.putLower "LQD" (some dest) [.vf ft, .memDec is])

/-- `RSQRT` (R356). -/
def execRsqrt (fs : BitVec 5) (fsf : BitVec 2) (ft : BitVec 5) (ftf : BitVec 2) (s : State) : Host.Outcome State Fault Refusal :=
  .next (s.putLower "RSQRT" none [.q, .vfc fs fsf, .vfc ft ftf])

/-- `ILWR` (R357). -/
def execIlwr (dest it is : BitVec 4) (s : State) : Host.Outcome State Fault Refusal :=
  .next (s.putLower "ILWR" (some dest) [.vi it, .memBase is])

/-- `RINIT` (R358). -/
def execRinit (fs : BitVec 5) (fsf : BitVec 2) (s : State) : Host.Outcome State Fault Refusal :=
  .next (s.putLower "RINIT" none [.r, .vfc fs fsf])

/-- `ELENG` (R359). -/
def execEleng (fs : BitVec 5) (s : State) : Host.Outcome State Fault Refusal :=
  .next (s.putLower "ELENG" none [.p, .vf fs])

/-- `ESUM` (R360). -/
def execEsum (fs : BitVec 5) (s : State) : Host.Outcome State Fault Refusal :=
  .next (s.putLower "ESUM" none [.p, .vf fs])

/-- `ERCPR` (R361). -/
def execErcpr (fs : BitVec 5) (fsf : BitVec 2) (s : State) : Host.Outcome State Fault Refusal :=
  .next (s.putLower "ERCPR" none [.p, .vfc fs fsf])

/-- `EEXP` (R362). -/
def execEexp (fs : BitVec 5) (fsf : BitVec 2) (s : State) : Host.Outcome State Fault Refusal :=
  .next (s.putLower "EEXP" none [.p, .vfc fs fsf])

/-- `SQD` (R363). -/
def execSqd (dest : BitVec 4) (fs : BitVec 5) (it : BitVec 4) (s : State) : Host.Outcome State Fault Refusal :=
  .next (s.putLower "SQD" (some dest) [.vf fs, .memDec it])

/-- `WAITQ` (R364). -/
def execWaitq (s : State) : Host.Outcome State Fault Refusal :=
  .next (s.putLower "WAITQ" none [])

/-- `ISWR` (R365). -/
def execIswr (dest it is : BitVec 4) (s : State) : Host.Outcome State Fault Refusal :=
  .next (s.putLower "ISWR" (some dest) [.vi it, .memBase is])

/-- `RXOR` (R366). -/
def execRxor (fs : BitVec 5) (fsf : BitVec 2) (s : State) : Host.Outcome State Fault Refusal :=
  .next (s.putLower "RXOR" none [.r, .vfc fs fsf])

/-- `ERLENG` (R367). -/
def execErleng (fs : BitVec 5) (s : State) : Host.Outcome State Fault Refusal :=
  .next (s.putLower "ERLENG" none [.p, .vf fs])

/-- `WAITP` (R368). -/
def execWaitp (s : State) : Host.Outcome State Fault Refusal :=
  .next (s.putLower "WAITP" none [])

end Sys2Proof.Machine
end

