-- ==== Sys2Proof/Machine/Exh.lean ====
section
/-! DEFINITION. EXH, the execution history (48_execution_history). -/

namespace Sys2Proof.Machine

/-- `record[k]` (R43). -/
def Exh.record (e : Exh) (k : Nat) : Record := Sparse.get Record.reset e.records k

/-- Replace `record[k]` by its image under `f`. -/
def Exh.update (e : Exh) (k : Nat) (f : Record → Record) : Exh :=
  { e with records := Sparse.set Record.reset k (f (e.record k)) e.records }

/-- The record index of a program address (R493). -/
def recordIndex (pc : Word) : Nat := pc.toNat / 8

/-- Mark executed and count one execution (R492). -/
def Record.count (r : Record) : Record := { r with executed := true, timesExecuted := r.timesExecuted + 1 }

/-- Add one to the count under a key (R494). -/
def increment (key : Word) (m : Sparse Nat) : Sparse Nat := Sparse.set 0 key.toNat (Sparse.get 0 m key.toNat + 1) m

/-- Count the edge from `p` to `pc` at both ends (R492, R495). -/
def Exh.countEdge (e : Exh) (p pc : Word) : Exh :=
  (e.update (recordIndex p) fun r => { r with branchTo := increment pc r.branchTo }).update (recordIndex pc)
    fun r => { r with branchFrom := increment p r.branchFrom }

/-- Whether two consecutive pcs make an edge (R495): on unbounded integers, without wrap. -/
abbrev isEdge (p pc : Word) : Prop := p.toNat + pairBytes ≠ pc.toNat

/-- Count a pc inside the program image (R492, from `k <- pc / 8` on). -/
def Exh.countPc (e : Exh) (pc : Word) : Exh :=
  let counted := e.update (recordIndex pc) Record.count
  let edged := match e.prevPc with
    | some p => if isEdge p pc then counted.countEdge p pc else counted
    | none => counted
  { edged with prevPc := some pc }

/-- The update for a snapshot whose pc is `pc`; `index` is the snapshot's (R492, R499). -/
def Exh.commitPc (e : Exh) (pc : Word) (index : Nat) : Exh :=
  if progBytes ≤ pc.toNat then e.raise (.pcOutOfRange pc index) else e.countPc pc

/-- `onCommit(s)` (R492), in the order of R514; `none` where the pc's bytes lie outside the register block, which the
parameter constraint rules out (log 13). -/
def Exh.onCommit (p : Params) (e : Exh) (s : Snapshot) (index : Nat) : Option Exh :=
  if e.fault.isSome then some e
  else if s.regsValid = false then some (e.raise (.pcUnavailable index))
  else (s.pcBytes p).map fun pc => e.commitPc pc index

/-- `fallIn(r)` (R497): derived, never stored. -/
def Record.fallIn (r : Record) : Int := (r.timesExecuted : Int) - (Sparse.total r.branchFrom : Int)

/-- `fallOut(r)` (R497): derived, never stored. -/
def Record.fallOut (r : Record) : Int := (r.timesExecuted : Int) - (Sparse.total r.branchTo : Int)

end Sys2Proof.Machine
end

