-- ==== Sys2Proof/Machine/TracePackets.lean ====
section
/-! DEFINITION. The meanings of the six trace packets: `apply(b, p)` of 47 R452, rules R455 to R460. The cursor is moved by
the step that applies the packet (Machine/Tsr). Payloads are copied verbatim (R461). -/

namespace Sys2Proof.Machine

/-- `PUSHSNAPSHOT` (R455): append a copy of the accumulator, update EXH for it (R491; only with EXH, R505), then clear the
pending fields. -/
def execPushsnapshot (s : State) : Host.Outcome State Fault Refusal :=
  if s.params.hasExh then
    match s.exh.onCommit s.params s.tsr.acc s.tsr.snapshots.length with
    | some e => .next ((s.appendSnapshot.setExh e).clearPending)
    | none => .fault .outsideImage
  else .next s.appendSnapshot.clearPending

/-- `SETREGISTERS` (R456). -/
def execSetregisters (payload : List Byte) (s : State) : Host.Outcome State Fault Refusal :=
  .next (s.setAcc { s.tsr.acc with regs := Image.ofBytes payload, regsValid := true })

/-- `SETMEMORY` (R457). -/
def execSetmemory (payload : List Byte) (s : State) : Host.Outcome State Fault Refusal :=
  .next (s.setAcc { s.tsr.acc with dmem := Image.ofBytes payload, dmemValid := true })

/-- `SETINSTRUCTIONS` (R458). -/
def execSetinstructions (payload : List Byte) (s : State) : Host.Outcome State Fault Refusal :=
  .next (s.setAcc { s.tsr.acc with imem := Image.ofBytes payload, imemValid := true })

/-- `LOADOP` (R459): a second one before the next commit replaces the first. -/
def execLoadop (addr size : Word) (s : State) : Host.Outcome State Fault Refusal :=
  .next (s.setAcc { s.tsr.acc with pendingLoad := some ⟨addr, size⟩ })

/-- `STOREOP` (R460). -/
def execStoreop (addr size : Word) (s : State) : Host.Outcome State Fault Refusal :=
  .next (s.setAcc { s.tsr.acc with pendingStore := some ⟨addr, size⟩ })

end Sys2Proof.Machine
end

