-- ==== Sys2Proof/Machine/UpperAcc.lean ====
section
/-! DEFINITION. The meanings of the 47 upper-word instructions of tables FD_00 to FD_11 (43_vu_upper_acc, R248 to R294). The effect the spec gives each is its decode: the row, the
fields f, and the text of its operand template on the IDEC port; no flag is written and no exception raised (41 R160, R176).
The VU's own execution is outside the spec's scope (00_scope R5). -/

namespace Sys2Proof.Machine

/-- `ADDAx` (R248). -/
def execAddax (dest : BitVec 4) (fs ft : BitVec 5) (s : State) : Host.Outcome State Fault Refusal :=
  .next (s.putUpper "ADDAx" (some dest) [.acc, .vf fs, .vfc ft 0])

/-- `SUBAx` (R249). -/
def execSubax (dest : BitVec 4) (fs ft : BitVec 5) (s : State) : Host.Outcome State Fault Refusal :=
  .next (s.putUpper "SUBAx" (some dest) [.acc, .vf fs, .vfc ft 0])

/-- `MADDAx` (R250). -/
def execMaddax (dest : BitVec 4) (fs ft : BitVec 5) (s : State) : Host.Outcome State Fault Refusal :=
  .next (s.putUpper "MADDAx" (some dest) [.acc, .vf fs, .vfc ft 0])

/-- `MSUBAx` (R251). -/
def execMsubax (dest : BitVec 4) (fs ft : BitVec 5) (s : State) : Host.Outcome State Fault Refusal :=
  .next (s.putUpper "MSUBAx" (some dest) [.acc, .vf fs, .vfc ft 0])

/-- `ITOF0` (R252). -/
def execItof0 (dest : BitVec 4) (ft fs : BitVec 5) (s : State) : Host.Outcome State Fault Refusal :=
  .next (s.putUpper "ITOF0" (some dest) [.vf ft, .vf fs])

/-- `FTOI0` (R253). -/
def execFtoi0 (dest : BitVec 4) (ft fs : BitVec 5) (s : State) : Host.Outcome State Fault Refusal :=
  .next (s.putUpper "FTOI0" (some dest) [.vf ft, .vf fs])

/-- `MULAx` (R254). -/
def execMulax (dest : BitVec 4) (fs ft : BitVec 5) (s : State) : Host.Outcome State Fault Refusal :=
  .next (s.putUpper "MULAx" (some dest) [.acc, .vf fs, .vfc ft 0])

/-- `MULAq` (R255). -/
def execMulaq (dest : BitVec 4) (fs : BitVec 5) (s : State) : Host.Outcome State Fault Refusal :=
  .next (s.putUpper "MULAq" (some dest) [.acc, .vf fs, .q])

/-- `ADDAq` (R256). -/
def execAddaq (dest : BitVec 4) (fs : BitVec 5) (s : State) : Host.Outcome State Fault Refusal :=
  .next (s.putUpper "ADDAq" (some dest) [.acc, .vf fs, .q])

/-- `SUBAq` (R257). -/
def execSubaq (dest : BitVec 4) (fs : BitVec 5) (s : State) : Host.Outcome State Fault Refusal :=
  .next (s.putUpper "SUBAq" (some dest) [.acc, .vf fs, .q])

/-- `ADDA` (R258). -/
def execAdda (dest : BitVec 4) (fs ft : BitVec 5) (s : State) : Host.Outcome State Fault Refusal :=
  .next (s.putUpper "ADDA" (some dest) [.acc, .vf fs, .vf ft])

/-- `SUBA` (R259). -/
def execSuba (dest : BitVec 4) (fs ft : BitVec 5) (s : State) : Host.Outcome State Fault Refusal :=
  .next (s.putUpper "SUBA" (some dest) [.acc, .vf fs, .vf ft])

/-- `ADDAy` (R260). -/
def execAdday (dest : BitVec 4) (fs ft : BitVec 5) (s : State) : Host.Outcome State Fault Refusal :=
  .next (s.putUpper "ADDAy" (some dest) [.acc, .vf fs, .vfc ft 1])

/-- `SUBAy` (R261). -/
def execSubay (dest : BitVec 4) (fs ft : BitVec 5) (s : State) : Host.Outcome State Fault Refusal :=
  .next (s.putUpper "SUBAy" (some dest) [.acc, .vf fs, .vfc ft 1])

/-- `MADDAy` (R262). -/
def execMadday (dest : BitVec 4) (fs ft : BitVec 5) (s : State) : Host.Outcome State Fault Refusal :=
  .next (s.putUpper "MADDAy" (some dest) [.acc, .vf fs, .vfc ft 1])

/-- `MSUBAy` (R263). -/
def execMsubay (dest : BitVec 4) (fs ft : BitVec 5) (s : State) : Host.Outcome State Fault Refusal :=
  .next (s.putUpper "MSUBAy" (some dest) [.acc, .vf fs, .vfc ft 1])

/-- `ITOF4` (R264). -/
def execItof4 (dest : BitVec 4) (ft fs : BitVec 5) (s : State) : Host.Outcome State Fault Refusal :=
  .next (s.putUpper "ITOF4" (some dest) [.vf ft, .vf fs])

/-- `FTOI4` (R265). -/
def execFtoi4 (dest : BitVec 4) (ft fs : BitVec 5) (s : State) : Host.Outcome State Fault Refusal :=
  .next (s.putUpper "FTOI4" (some dest) [.vf ft, .vf fs])

/-- `MULAy` (R266). -/
def execMulay (dest : BitVec 4) (fs ft : BitVec 5) (s : State) : Host.Outcome State Fault Refusal :=
  .next (s.putUpper "MULAy" (some dest) [.acc, .vf fs, .vfc ft 1])

/-- `ABS` (R267). -/
def execAbs (dest : BitVec 4) (ft fs : BitVec 5) (s : State) : Host.Outcome State Fault Refusal :=
  .next (s.putUpper "ABS" (some dest) [.vf ft, .vf fs])

/-- `MADDAq` (R268). -/
def execMaddaq (dest : BitVec 4) (fs : BitVec 5) (s : State) : Host.Outcome State Fault Refusal :=
  .next (s.putUpper "MADDAq" (some dest) [.acc, .vf fs, .q])

/-- `MSUBAq` (R269). -/
def execMsubaq (dest : BitVec 4) (fs : BitVec 5) (s : State) : Host.Outcome State Fault Refusal :=
  .next (s.putUpper "MSUBAq" (some dest) [.acc, .vf fs, .q])

/-- `MADDA` (R270). -/
def execMadda (dest : BitVec 4) (fs ft : BitVec 5) (s : State) : Host.Outcome State Fault Refusal :=
  .next (s.putUpper "MADDA" (some dest) [.acc, .vf fs, .vf ft])

/-- `MSUBA` (R271). -/
def execMsuba (dest : BitVec 4) (fs ft : BitVec 5) (s : State) : Host.Outcome State Fault Refusal :=
  .next (s.putUpper "MSUBA" (some dest) [.acc, .vf fs, .vf ft])

/-- `ADDAz` (R272). -/
def execAddaz (dest : BitVec 4) (fs ft : BitVec 5) (s : State) : Host.Outcome State Fault Refusal :=
  .next (s.putUpper "ADDAz" (some dest) [.acc, .vf fs, .vfc ft 2])

/-- `SUBAz` (R273). -/
def execSubaz (dest : BitVec 4) (fs ft : BitVec 5) (s : State) : Host.Outcome State Fault Refusal :=
  .next (s.putUpper "SUBAz" (some dest) [.acc, .vf fs, .vfc ft 2])

/-- `MADDAz` (R274). -/
def execMaddaz (dest : BitVec 4) (fs ft : BitVec 5) (s : State) : Host.Outcome State Fault Refusal :=
  .next (s.putUpper "MADDAz" (some dest) [.acc, .vf fs, .vfc ft 2])

/-- `MSUBAz` (R275). -/
def execMsubaz (dest : BitVec 4) (fs ft : BitVec 5) (s : State) : Host.Outcome State Fault Refusal :=
  .next (s.putUpper "MSUBAz" (some dest) [.acc, .vf fs, .vfc ft 2])

/-- `ITOF12` (R276). -/
def execItof12 (dest : BitVec 4) (ft fs : BitVec 5) (s : State) : Host.Outcome State Fault Refusal :=
  .next (s.putUpper "ITOF12" (some dest) [.vf ft, .vf fs])

/-- `FTOI12` (R277). -/
def execFtoi12 (dest : BitVec 4) (ft fs : BitVec 5) (s : State) : Host.Outcome State Fault Refusal :=
  .next (s.putUpper "FTOI12" (some dest) [.vf ft, .vf fs])

/-- `MULAz` (R278). -/
def execMulaz (dest : BitVec 4) (fs ft : BitVec 5) (s : State) : Host.Outcome State Fault Refusal :=
  .next (s.putUpper "MULAz" (some dest) [.acc, .vf fs, .vfc ft 2])

/-- `MULAi` (R279). -/
def execMulai (dest : BitVec 4) (fs : BitVec 5) (s : State) : Host.Outcome State Fault Refusal :=
  .next (s.putUpper "MULAi" (some dest) [.acc, .vf fs, .i])

/-- `ADDAi` (R280). -/
def execAddai (dest : BitVec 4) (fs : BitVec 5) (s : State) : Host.Outcome State Fault Refusal :=
  .next (s.putUpper "ADDAi" (some dest) [.acc, .vf fs, .i])

/-- `SUBAi` (R281). -/
def execSubai (dest : BitVec 4) (fs : BitVec 5) (s : State) : Host.Outcome State Fault Refusal :=
  .next (s.putUpper "SUBAi" (some dest) [.acc, .vf fs, .i])

/-- `MULA` (R282). -/
def execMula (dest : BitVec 4) (fs ft : BitVec 5) (s : State) : Host.Outcome State Fault Refusal :=
  .next (s.putUpper "MULA" (some dest) [.acc, .vf fs, .vf ft])

/-- `OPMULA` (R283). -/
def execOpmula (dest : BitVec 4) (fs ft : BitVec 5) (s : State) : Host.Outcome State Fault Refusal :=
  .next (s.putUpper "OPMULA" (some dest) [.acc, .vf fs, .vf ft])

/-- `ADDAw` (R284). -/
def execAddaw (dest : BitVec 4) (fs ft : BitVec 5) (s : State) : Host.Outcome State Fault Refusal :=
  .next (s.putUpper "ADDAw" (some dest) [.acc, .vf fs, .vfc ft 3])

/-- `SUBAw` (R285). -/
def execSubaw (dest : BitVec 4) (fs ft : BitVec 5) (s : State) : Host.Outcome State Fault Refusal :=
  .next (s.putUpper "SUBAw" (some dest) [.acc, .vf fs, .vfc ft 3])

/-- `MADDAw` (R286). -/
def execMaddaw (dest : BitVec 4) (fs ft : BitVec 5) (s : State) : Host.Outcome State Fault Refusal :=
  .next (s.putUpper "MADDAw" (some dest) [.acc, .vf fs, .vfc ft 3])

/-- `MSUBAw` (R287). -/
def execMsubaw (dest : BitVec 4) (fs ft : BitVec 5) (s : State) : Host.Outcome State Fault Refusal :=
  .next (s.putUpper "MSUBAw" (some dest) [.acc, .vf fs, .vfc ft 3])

/-- `ITOF15` (R288). -/
def execItof15 (dest : BitVec 4) (ft fs : BitVec 5) (s : State) : Host.Outcome State Fault Refusal :=
  .next (s.putUpper "ITOF15" (some dest) [.vf ft, .vf fs])

/-- `FTOI15` (R289). -/
def execFtoi15 (dest : BitVec 4) (ft fs : BitVec 5) (s : State) : Host.Outcome State Fault Refusal :=
  .next (s.putUpper "FTOI15" (some dest) [.vf ft, .vf fs])

/-- `MULAw` (R290). -/
def execMulaw (dest : BitVec 4) (fs ft : BitVec 5) (s : State) : Host.Outcome State Fault Refusal :=
  .next (s.putUpper "MULAw" (some dest) [.acc, .vf fs, .vfc ft 3])

/-- `CLIPw` (R291). -/
def execClipw (dest : BitVec 4) (fs ft : BitVec 5) (s : State) : Host.Outcome State Fault Refusal :=
  .next (s.putUpper "CLIPw" (some dest) [.vf fs, .vfc ft 3])

/-- `MADDAi` (R292). -/
def execMaddai (dest : BitVec 4) (fs : BitVec 5) (s : State) : Host.Outcome State Fault Refusal :=
  .next (s.putUpper "MADDAi" (some dest) [.acc, .vf fs, .i])

/-- `MSUBAi` (R293). -/
def execMsubai (dest : BitVec 4) (fs : BitVec 5) (s : State) : Host.Outcome State Fault Refusal :=
  .next (s.putUpper "MSUBAi" (some dest) [.acc, .vf fs, .i])

/-- `NOP` (R294). -/
def execNop (s : State) : Host.Outcome State Fault Refusal :=
  .next (s.putUpper "NOP" none [])

end Sys2Proof.Machine
end

