-- ==== Sys2Proof/Machine/UpperMain.lean ====
section
/-! DEFINITION. The meanings of the 48 upper-word instructions of table UPPER (42_vu_upper_main, R200 to R247). The effect the spec gives each is its decode: the row, the
fields f, and the text of its operand template on the IDEC port; no flag is written and no exception raised (41 R160, R176).
The VU's own execution is outside the spec's scope (00_scope R5). -/

namespace Sys2Proof.Machine

/-- `ADDx` (R200). -/
def execAddx (dest : BitVec 4) (fd fs ft : BitVec 5) (s : State) : Host.Outcome State Fault Refusal :=
  .next (s.putUpper "ADDx" (some dest) [.vf fd, .vf fs, .vfc ft 0])

/-- `ADDy` (R201). -/
def execAddy (dest : BitVec 4) (fd fs ft : BitVec 5) (s : State) : Host.Outcome State Fault Refusal :=
  .next (s.putUpper "ADDy" (some dest) [.vf fd, .vf fs, .vfc ft 1])

/-- `ADDz` (R202). -/
def execAddz (dest : BitVec 4) (fd fs ft : BitVec 5) (s : State) : Host.Outcome State Fault Refusal :=
  .next (s.putUpper "ADDz" (some dest) [.vf fd, .vf fs, .vfc ft 2])

/-- `ADDw` (R203). -/
def execAddw (dest : BitVec 4) (fd fs ft : BitVec 5) (s : State) : Host.Outcome State Fault Refusal :=
  .next (s.putUpper "ADDw" (some dest) [.vf fd, .vf fs, .vfc ft 3])

/-- `SUBx` (R204). -/
def execSubx (dest : BitVec 4) (fd fs ft : BitVec 5) (s : State) : Host.Outcome State Fault Refusal :=
  .next (s.putUpper "SUBx" (some dest) [.vf fd, .vf fs, .vfc ft 0])

/-- `SUBy` (R205). -/
def execSuby (dest : BitVec 4) (fd fs ft : BitVec 5) (s : State) : Host.Outcome State Fault Refusal :=
  .next (s.putUpper "SUBy" (some dest) [.vf fd, .vf fs, .vfc ft 1])

/-- `SUBz` (R206). -/
def execSubz (dest : BitVec 4) (fd fs ft : BitVec 5) (s : State) : Host.Outcome State Fault Refusal :=
  .next (s.putUpper "SUBz" (some dest) [.vf fd, .vf fs, .vfc ft 2])

/-- `SUBw` (R207). -/
def execSubw (dest : BitVec 4) (fd fs ft : BitVec 5) (s : State) : Host.Outcome State Fault Refusal :=
  .next (s.putUpper "SUBw" (some dest) [.vf fd, .vf fs, .vfc ft 3])

/-- `MADDx` (R208). -/
def execMaddx (dest : BitVec 4) (fd fs ft : BitVec 5) (s : State) : Host.Outcome State Fault Refusal :=
  .next (s.putUpper "MADDx" (some dest) [.vf fd, .vf fs, .vfc ft 0])

/-- `MADDy` (R209). -/
def execMaddy (dest : BitVec 4) (fd fs ft : BitVec 5) (s : State) : Host.Outcome State Fault Refusal :=
  .next (s.putUpper "MADDy" (some dest) [.vf fd, .vf fs, .vfc ft 1])

/-- `MADDz` (R210). -/
def execMaddz (dest : BitVec 4) (fd fs ft : BitVec 5) (s : State) : Host.Outcome State Fault Refusal :=
  .next (s.putUpper "MADDz" (some dest) [.vf fd, .vf fs, .vfc ft 2])

/-- `MADDw` (R211). -/
def execMaddw (dest : BitVec 4) (fd fs ft : BitVec 5) (s : State) : Host.Outcome State Fault Refusal :=
  .next (s.putUpper "MADDw" (some dest) [.vf fd, .vf fs, .vfc ft 3])

/-- `MSUBx` (R212). -/
def execMsubx (dest : BitVec 4) (fd fs ft : BitVec 5) (s : State) : Host.Outcome State Fault Refusal :=
  .next (s.putUpper "MSUBx" (some dest) [.vf fd, .vf fs, .vfc ft 0])

/-- `MSUBy` (R213). -/
def execMsuby (dest : BitVec 4) (fd fs ft : BitVec 5) (s : State) : Host.Outcome State Fault Refusal :=
  .next (s.putUpper "MSUBy" (some dest) [.vf fd, .vf fs, .vfc ft 1])

/-- `MSUBz` (R214). -/
def execMsubz (dest : BitVec 4) (fd fs ft : BitVec 5) (s : State) : Host.Outcome State Fault Refusal :=
  .next (s.putUpper "MSUBz" (some dest) [.vf fd, .vf fs, .vfc ft 2])

/-- `MSUBw` (R215). -/
def execMsubw (dest : BitVec 4) (fd fs ft : BitVec 5) (s : State) : Host.Outcome State Fault Refusal :=
  .next (s.putUpper "MSUBw" (some dest) [.vf fd, .vf fs, .vfc ft 3])

/-- `MAXx` (R216). -/
def execMaxx (dest : BitVec 4) (fd fs ft : BitVec 5) (s : State) : Host.Outcome State Fault Refusal :=
  .next (s.putUpper "MAXx" (some dest) [.vf fd, .vf fs, .vfc ft 0])

/-- `MAXy` (R217). -/
def execMaxy (dest : BitVec 4) (fd fs ft : BitVec 5) (s : State) : Host.Outcome State Fault Refusal :=
  .next (s.putUpper "MAXy" (some dest) [.vf fd, .vf fs, .vfc ft 1])

/-- `MAXz` (R218). -/
def execMaxz (dest : BitVec 4) (fd fs ft : BitVec 5) (s : State) : Host.Outcome State Fault Refusal :=
  .next (s.putUpper "MAXz" (some dest) [.vf fd, .vf fs, .vfc ft 2])

/-- `MAXw` (R219). -/
def execMaxw (dest : BitVec 4) (fd fs ft : BitVec 5) (s : State) : Host.Outcome State Fault Refusal :=
  .next (s.putUpper "MAXw" (some dest) [.vf fd, .vf fs, .vfc ft 3])

/-- `MINIx` (R220). -/
def execMinix (dest : BitVec 4) (fd fs ft : BitVec 5) (s : State) : Host.Outcome State Fault Refusal :=
  .next (s.putUpper "MINIx" (some dest) [.vf fd, .vf fs, .vfc ft 0])

/-- `MINIy` (R221). -/
def execMiniy (dest : BitVec 4) (fd fs ft : BitVec 5) (s : State) : Host.Outcome State Fault Refusal :=
  .next (s.putUpper "MINIy" (some dest) [.vf fd, .vf fs, .vfc ft 1])

/-- `MINIz` (R222). -/
def execMiniz (dest : BitVec 4) (fd fs ft : BitVec 5) (s : State) : Host.Outcome State Fault Refusal :=
  .next (s.putUpper "MINIz" (some dest) [.vf fd, .vf fs, .vfc ft 2])

/-- `MINIw` (R223). -/
def execMiniw (dest : BitVec 4) (fd fs ft : BitVec 5) (s : State) : Host.Outcome State Fault Refusal :=
  .next (s.putUpper "MINIw" (some dest) [.vf fd, .vf fs, .vfc ft 3])

/-- `MULx` (R224). -/
def execMulx (dest : BitVec 4) (fd fs ft : BitVec 5) (s : State) : Host.Outcome State Fault Refusal :=
  .next (s.putUpper "MULx" (some dest) [.vf fd, .vf fs, .vfc ft 0])

/-- `MULy` (R225). -/
def execMuly (dest : BitVec 4) (fd fs ft : BitVec 5) (s : State) : Host.Outcome State Fault Refusal :=
  .next (s.putUpper "MULy" (some dest) [.vf fd, .vf fs, .vfc ft 1])

/-- `MULz` (R226). -/
def execMulz (dest : BitVec 4) (fd fs ft : BitVec 5) (s : State) : Host.Outcome State Fault Refusal :=
  .next (s.putUpper "MULz" (some dest) [.vf fd, .vf fs, .vfc ft 2])

/-- `MULw` (R227). -/
def execMulw (dest : BitVec 4) (fd fs ft : BitVec 5) (s : State) : Host.Outcome State Fault Refusal :=
  .next (s.putUpper "MULw" (some dest) [.vf fd, .vf fs, .vfc ft 3])

/-- `MULq` (R228). -/
def execMulq (dest : BitVec 4) (fd fs : BitVec 5) (s : State) : Host.Outcome State Fault Refusal :=
  .next (s.putUpper "MULq" (some dest) [.vf fd, .vf fs, .q])

/-- `MAXi` (R229). -/
def execMaxi (dest : BitVec 4) (fd fs : BitVec 5) (s : State) : Host.Outcome State Fault Refusal :=
  .next (s.putUpper "MAXi" (some dest) [.vf fd, .vf fs, .i])

/-- `MULi` (R230). -/
def execMuli (dest : BitVec 4) (fd fs : BitVec 5) (s : State) : Host.Outcome State Fault Refusal :=
  .next (s.putUpper "MULi" (some dest) [.vf fd, .vf fs, .i])

/-- `MINIi` (R231). -/
def execMinii (dest : BitVec 4) (fd fs : BitVec 5) (s : State) : Host.Outcome State Fault Refusal :=
  .next (s.putUpper "MINIi" (some dest) [.vf fd, .vf fs, .i])

/-- `ADDq` (R232). -/
def execAddq (dest : BitVec 4) (fd fs : BitVec 5) (s : State) : Host.Outcome State Fault Refusal :=
  .next (s.putUpper "ADDq" (some dest) [.vf fd, .vf fs, .q])

/-- `MADDq` (R233). -/
def execMaddq (dest : BitVec 4) (fd fs : BitVec 5) (s : State) : Host.Outcome State Fault Refusal :=
  .next (s.putUpper "MADDq" (some dest) [.vf fd, .vf fs, .q])

/-- `ADDi` (R234). -/
def execAddi (dest : BitVec 4) (fd fs : BitVec 5) (s : State) : Host.Outcome State Fault Refusal :=
  .next (s.putUpper "ADDi" (some dest) [.vf fd, .vf fs, .i])

/-- `MADDi` (R235). -/
def execMaddi (dest : BitVec 4) (fd fs : BitVec 5) (s : State) : Host.Outcome State Fault Refusal :=
  .next (s.putUpper "MADDi" (some dest) [.vf fd, .vf fs, .i])

/-- `SUBq` (R236). -/
def execSubq (dest : BitVec 4) (fd fs : BitVec 5) (s : State) : Host.Outcome State Fault Refusal :=
  .next (s.putUpper "SUBq" (some dest) [.vf fd, .vf fs, .q])

/-- `MSUBq` (R237). -/
def execMsubq (dest : BitVec 4) (fd fs : BitVec 5) (s : State) : Host.Outcome State Fault Refusal :=
  .next (s.putUpper "MSUBq" (some dest) [.vf fd, .vf fs, .q])

/-- `SUBi` (R238). -/
def execSubi (dest : BitVec 4) (fd fs : BitVec 5) (s : State) : Host.Outcome State Fault Refusal :=
  .next (s.putUpper "SUBi" (some dest) [.vf fd, .vf fs, .i])

/-- `MSUBi` (R239). -/
def execMsubi (dest : BitVec 4) (fd fs : BitVec 5) (s : State) : Host.Outcome State Fault Refusal :=
  .next (s.putUpper "MSUBi" (some dest) [.vf fd, .vf fs, .i])

/-- `ADD` (R240). -/
def execAdd (dest : BitVec 4) (fd fs ft : BitVec 5) (s : State) : Host.Outcome State Fault Refusal :=
  .next (s.putUpper "ADD" (some dest) [.vf fd, .vf fs, .vf ft])

/-- `MADD` (R241). -/
def execMadd (dest : BitVec 4) (fd fs ft : BitVec 5) (s : State) : Host.Outcome State Fault Refusal :=
  .next (s.putUpper "MADD" (some dest) [.vf fd, .vf fs, .vf ft])

/-- `MUL` (R242). -/
def execMul (dest : BitVec 4) (fd fs ft : BitVec 5) (s : State) : Host.Outcome State Fault Refusal :=
  .next (s.putUpper "MUL" (some dest) [.vf fd, .vf fs, .vf ft])

/-- `MAX` (R243). -/
def execMax (dest : BitVec 4) (fd fs ft : BitVec 5) (s : State) : Host.Outcome State Fault Refusal :=
  .next (s.putUpper "MAX" (some dest) [.vf fd, .vf fs, .vf ft])

/-- `SUB` (R244). -/
def execSub (dest : BitVec 4) (fd fs ft : BitVec 5) (s : State) : Host.Outcome State Fault Refusal :=
  .next (s.putUpper "SUB" (some dest) [.vf fd, .vf fs, .vf ft])

/-- `MSUB` (R245). -/
def execMsub (dest : BitVec 4) (fd fs ft : BitVec 5) (s : State) : Host.Outcome State Fault Refusal :=
  .next (s.putUpper "MSUB" (some dest) [.vf fd, .vf fs, .vf ft])

/-- `OPMSUB` (R246). -/
def execOpmsub (dest : BitVec 4) (fd fs ft : BitVec 5) (s : State) : Host.Outcome State Fault Refusal :=
  .next (s.putUpper "OPMSUB" (some dest) [.vf fd, .vf fs, .vf ft])

/-- `MINI` (R247). -/
def execMini (dest : BitVec 4) (fd fs ft : BitVec 5) (s : State) : Host.Outcome State Fault Refusal :=
  .next (s.putUpper "MINI" (some dest) [.vf fd, .vf fs, .vf ft])

end Sys2Proof.Machine
end

