-- ==== Sys2Proof/Machine/Dispatch.lean ====
section
/-! DEFINITION. The dispatch: one arm for each constructor of Instr, each one direct call of its meaning. -/

namespace Sys2Proof.Machine

def exec (i : Instr) (s : State) : Host.Outcome State Fault Refusal :=
  match i with
  | .addx dest fd fs ft => Sys2Proof.Machine.execAddx dest fd fs ft s
  | .addy dest fd fs ft => Sys2Proof.Machine.execAddy dest fd fs ft s
  | .addz dest fd fs ft => Sys2Proof.Machine.execAddz dest fd fs ft s
  | .addw dest fd fs ft => Sys2Proof.Machine.execAddw dest fd fs ft s
  | .subx dest fd fs ft => Sys2Proof.Machine.execSubx dest fd fs ft s
  | .suby dest fd fs ft => Sys2Proof.Machine.execSuby dest fd fs ft s
  | .subz dest fd fs ft => Sys2Proof.Machine.execSubz dest fd fs ft s
  | .subw dest fd fs ft => Sys2Proof.Machine.execSubw dest fd fs ft s
  | .maddx dest fd fs ft => Sys2Proof.Machine.execMaddx dest fd fs ft s
  | .maddy dest fd fs ft => Sys2Proof.Machine.execMaddy dest fd fs ft s
  | .maddz dest fd fs ft => Sys2Proof.Machine.execMaddz dest fd fs ft s
  | .maddw dest fd fs ft => Sys2Proof.Machine.execMaddw dest fd fs ft s
  | .msubx dest fd fs ft => Sys2Proof.Machine.execMsubx dest fd fs ft s
  | .msuby dest fd fs ft => Sys2Proof.Machine.execMsuby dest fd fs ft s
  | .msubz dest fd fs ft => Sys2Proof.Machine.execMsubz dest fd fs ft s
  | .msubw dest fd fs ft => Sys2Proof.Machine.execMsubw dest fd fs ft s
  | .maxx dest fd fs ft => Sys2Proof.Machine.execMaxx dest fd fs ft s
  | .maxy dest fd fs ft => Sys2Proof.Machine.execMaxy dest fd fs ft s
  | .maxz dest fd fs ft => Sys2Proof.Machine.execMaxz dest fd fs ft s
  | .maxw dest fd fs ft => Sys2Proof.Machine.execMaxw dest fd fs ft s
  | .minix dest fd fs ft => Sys2Proof.Machine.execMinix dest fd fs ft s
  | .miniy dest fd fs ft => Sys2Proof.Machine.execMiniy dest fd fs ft s
  | .miniz dest fd fs ft => Sys2Proof.Machine.execMiniz dest fd fs ft s
  | .miniw dest fd fs ft => Sys2Proof.Machine.execMiniw dest fd fs ft s
  | .mulx dest fd fs ft => Sys2Proof.Machine.execMulx dest fd fs ft s
  | .muly dest fd fs ft => Sys2Proof.Machine.execMuly dest fd fs ft s
  | .mulz dest fd fs ft => Sys2Proof.Machine.execMulz dest fd fs ft s
  | .mulw dest fd fs ft => Sys2Proof.Machine.execMulw dest fd fs ft s
  | .mulq dest fd fs => Sys2Proof.Machine.execMulq dest fd fs s
  | .maxi dest fd fs => Sys2Proof.Machine.execMaxi dest fd fs s
  | .muli dest fd fs => Sys2Proof.Machine.execMuli dest fd fs s
  | .minii dest fd fs => Sys2Proof.Machine.execMinii dest fd fs s
  | .addq dest fd fs => Sys2Proof.Machine.execAddq dest fd fs s
  | .maddq dest fd fs => Sys2Proof.Machine.execMaddq dest fd fs s
  | .addi dest fd fs => Sys2Proof.Machine.execAddi dest fd fs s
  | .maddi dest fd fs => Sys2Proof.Machine.execMaddi dest fd fs s
  | .subq dest fd fs => Sys2Proof.Machine.execSubq dest fd fs s
  | .msubq dest fd fs => Sys2Proof.Machine.execMsubq dest fd fs s
  | .subi dest fd fs => Sys2Proof.Machine.execSubi dest fd fs s
  | .msubi dest fd fs => Sys2Proof.Machine.execMsubi dest fd fs s
  | .add dest fd fs ft => Sys2Proof.Machine.execAdd dest fd fs ft s
  | .madd dest fd fs ft => Sys2Proof.Machine.execMadd dest fd fs ft s
  | .mul dest fd fs ft => Sys2Proof.Machine.execMul dest fd fs ft s
  | .max dest fd fs ft => Sys2Proof.Machine.execMax dest fd fs ft s
  | .sub dest fd fs ft => Sys2Proof.Machine.execSub dest fd fs ft s
  | .msub dest fd fs ft => Sys2Proof.Machine.execMsub dest fd fs ft s
  | .opmsub dest fd fs ft => Sys2Proof.Machine.execOpmsub dest fd fs ft s
  | .mini dest fd fs ft => Sys2Proof.Machine.execMini dest fd fs ft s
  | .addax dest fs ft => Sys2Proof.Machine.execAddax dest fs ft s
  | .subax dest fs ft => Sys2Proof.Machine.execSubax dest fs ft s
  | .maddax dest fs ft => Sys2Proof.Machine.execMaddax dest fs ft s
  | .msubax dest fs ft => Sys2Proof.Machine.execMsubax dest fs ft s
  | .itof0 dest ft fs => Sys2Proof.Machine.execItof0 dest ft fs s
  | .ftoi0 dest ft fs => Sys2Proof.Machine.execFtoi0 dest ft fs s
  | .mulax dest fs ft => Sys2Proof.Machine.execMulax dest fs ft s
  | .mulaq dest fs => Sys2Proof.Machine.execMulaq dest fs s
  | .addaq dest fs => Sys2Proof.Machine.execAddaq dest fs s
  | .subaq dest fs => Sys2Proof.Machine.execSubaq dest fs s
  | .adda dest fs ft => Sys2Proof.Machine.execAdda dest fs ft s
  | .suba dest fs ft => Sys2Proof.Machine.execSuba dest fs ft s
  | .adday dest fs ft => Sys2Proof.Machine.execAdday dest fs ft s
  | .subay dest fs ft => Sys2Proof.Machine.execSubay dest fs ft s
  | .madday dest fs ft => Sys2Proof.Machine.execMadday dest fs ft s
  | .msubay dest fs ft => Sys2Proof.Machine.execMsubay dest fs ft s
  | .itof4 dest ft fs => Sys2Proof.Machine.execItof4 dest ft fs s
  | .ftoi4 dest ft fs => Sys2Proof.Machine.execFtoi4 dest ft fs s
  | .mulay dest fs ft => Sys2Proof.Machine.execMulay dest fs ft s
  | .abs dest ft fs => Sys2Proof.Machine.execAbs dest ft fs s
  | .maddaq dest fs => Sys2Proof.Machine.execMaddaq dest fs s
  | .msubaq dest fs => Sys2Proof.Machine.execMsubaq dest fs s
  | .madda dest fs ft => Sys2Proof.Machine.execMadda dest fs ft s
  | .msuba dest fs ft => Sys2Proof.Machine.execMsuba dest fs ft s
  | .addaz dest fs ft => Sys2Proof.Machine.execAddaz dest fs ft s
  | .subaz dest fs ft => Sys2Proof.Machine.execSubaz dest fs ft s
  | .maddaz dest fs ft => Sys2Proof.Machine.execMaddaz dest fs ft s
  | .msubaz dest fs ft => Sys2Proof.Machine.execMsubaz dest fs ft s
  | .itof12 dest ft fs => Sys2Proof.Machine.execItof12 dest ft fs s
  | .ftoi12 dest ft fs => Sys2Proof.Machine.execFtoi12 dest ft fs s
  | .mulaz dest fs ft => Sys2Proof.Machine.execMulaz dest fs ft s
  | .mulai dest fs => Sys2Proof.Machine.execMulai dest fs s
  | .addai dest fs => Sys2Proof.Machine.execAddai dest fs s
  | .subai dest fs => Sys2Proof.Machine.execSubai dest fs s
  | .mula dest fs ft => Sys2Proof.Machine.execMula dest fs ft s
  | .opmula dest fs ft => Sys2Proof.Machine.execOpmula dest fs ft s
  | .addaw dest fs ft => Sys2Proof.Machine.execAddaw dest fs ft s
  | .subaw dest fs ft => Sys2Proof.Machine.execSubaw dest fs ft s
  | .maddaw dest fs ft => Sys2Proof.Machine.execMaddaw dest fs ft s
  | .msubaw dest fs ft => Sys2Proof.Machine.execMsubaw dest fs ft s
  | .itof15 dest ft fs => Sys2Proof.Machine.execItof15 dest ft fs s
  | .ftoi15 dest ft fs => Sys2Proof.Machine.execFtoi15 dest ft fs s
  | .mulaw dest fs ft => Sys2Proof.Machine.execMulaw dest fs ft s
  | .clipw dest fs ft => Sys2Proof.Machine.execClipw dest fs ft s
  | .maddai dest fs => Sys2Proof.Machine.execMaddai dest fs s
  | .msubai dest fs => Sys2Proof.Machine.execMsubai dest fs s
  | .nop => Sys2Proof.Machine.execNop s
  | .lq dest ft imm11 is => Sys2Proof.Machine.execLq dest ft imm11 is s
  | .sq dest fs imm11 it => Sys2Proof.Machine.execSq dest fs imm11 it s
  | .ilw dest it imm11 is => Sys2Proof.Machine.execIlw dest it imm11 is s
  | .isw dest it imm11 is => Sys2Proof.Machine.execIsw dest it imm11 is s
  | .iaddiu it is imm15 => Sys2Proof.Machine.execIaddiu it is imm15 s
  | .isubiu it is imm15 => Sys2Proof.Machine.execIsubiu it is imm15 s
  | .fceq imm24 => Sys2Proof.Machine.execFceq imm24 s
  | .fcset imm24 => Sys2Proof.Machine.execFcset imm24 s
  | .fcand imm24 => Sys2Proof.Machine.execFcand imm24 s
  | .fcor imm24 => Sys2Proof.Machine.execFcor imm24 s
  | .fseq it imm12 => Sys2Proof.Machine.execFseq it imm12 s
  | .fsset imm12 => Sys2Proof.Machine.execFsset imm12 s
  | .fsand it imm12 => Sys2Proof.Machine.execFsand it imm12 s
  | .fsor it imm12 => Sys2Proof.Machine.execFsor it imm12 s
  | .fmeq it is => Sys2Proof.Machine.execFmeq it is s
  | .fmand it is => Sys2Proof.Machine.execFmand it is s
  | .fmor it is => Sys2Proof.Machine.execFmor it is s
  | .fcget it => Sys2Proof.Machine.execFcget it s
  | .b imm11 => Sys2Proof.Machine.execB imm11 s
  | .bal it imm11 => Sys2Proof.Machine.execBal it imm11 s
  | .jr is => Sys2Proof.Machine.execJr is s
  | .jalr it is => Sys2Proof.Machine.execJalr it is s
  | .ibeq it is imm11 => Sys2Proof.Machine.execIbeq it is imm11 s
  | .ibne it is imm11 => Sys2Proof.Machine.execIbne it is imm11 s
  | .ibltz is imm11 => Sys2Proof.Machine.execIbltz is imm11 s
  | .ibgtz is imm11 => Sys2Proof.Machine.execIbgtz is imm11 s
  | .iblez is imm11 => Sys2Proof.Machine.execIblez is imm11 s
  | .ibgez is imm11 => Sys2Proof.Machine.execIbgez is imm11 s
  | .iadd id is it => Sys2Proof.Machine.execIadd id is it s
  | .isub id is it => Sys2Proof.Machine.execIsub id is it s
  | .iaddi it is imm5 => Sys2Proof.Machine.execIaddi it is imm5 s
  | .iand id is it => Sys2Proof.Machine.execIand id is it s
  | .ior id is it => Sys2Proof.Machine.execIor id is it s
  | .move dest ft fs => Sys2Proof.Machine.execMove dest ft fs s
  | .lqi dest ft is => Sys2Proof.Machine.execLqi dest ft is s
  | .div fs fsf ft ftf => Sys2Proof.Machine.execDiv fs fsf ft ftf s
  | .mtir it fs fsf => Sys2Proof.Machine.execMtir it fs fsf s
  | .rnext dest ft => Sys2Proof.Machine.execRnext dest ft s
  | .mfp dest ft => Sys2Proof.Machine.execMfp dest ft s
  | .xtop it => Sys2Proof.Machine.execXtop it s
  | .xgkick is => Sys2Proof.Machine.execXgkick is s
  | .esadd fs => Sys2Proof.Machine.execEsadd fs s
  | .eatanxy fs => Sys2Proof.Machine.execEatanxy fs s
  | .esqrt fs fsf => Sys2Proof.Machine.execEsqrt fs fsf s
  | .esin fs fsf => Sys2Proof.Machine.execEsin fs fsf s
  | .mr32 dest ft fs => Sys2Proof.Machine.execMr32 dest ft fs s
  | .sqi dest fs it => Sys2Proof.Machine.execSqi dest fs it s
  | .sqrt ft ftf => Sys2Proof.Machine.execSqrt ft ftf s
  | .mfir dest ft is => Sys2Proof.Machine.execMfir dest ft is s
  | .rget dest ft => Sys2Proof.Machine.execRget dest ft s
  | .xitop it => Sys2Proof.Machine.execXitop it s
  | .ersadd fs => Sys2Proof.Machine.execErsadd fs s
  | .eatanxz fs => Sys2Proof.Machine.execEatanxz fs s
  | .ersqrt fs fsf => Sys2Proof.Machine.execErsqrt fs fsf s
  | .eatan fs fsf => Sys2Proof.Machine.execEatan fs fsf s
  | .lqd dest ft is => Sys2Proof.Machine.execLqd dest ft is s
  | .rsqrt fs fsf ft ftf => Sys2Proof.Machine.execRsqrt fs fsf ft ftf s
  | .ilwr dest it is => Sys2Proof.Machine.execIlwr dest it is s
  | .rinit fs fsf => Sys2Proof.Machine.execRinit fs fsf s
  | .eleng fs => Sys2Proof.Machine.execEleng fs s
  | .esum fs => Sys2Proof.Machine.execEsum fs s
  | .ercpr fs fsf => Sys2Proof.Machine.execErcpr fs fsf s
  | .eexp fs fsf => Sys2Proof.Machine.execEexp fs fsf s
  | .sqd dest fs it => Sys2Proof.Machine.execSqd dest fs it s
  | .waitq => Sys2Proof.Machine.execWaitq s
  | .iswr dest it is => Sys2Proof.Machine.execIswr dest it is s
  | .rxor fs fsf => Sys2Proof.Machine.execRxor fs fsf s
  | .erleng fs => Sys2Proof.Machine.execErleng fs s
  | .waitp => Sys2Proof.Machine.execWaitp s
  | .pushsnapshot => Sys2Proof.Machine.execPushsnapshot s
  | .setregisters payload => Sys2Proof.Machine.execSetregisters payload s
  | .setmemory payload => Sys2Proof.Machine.execSetmemory payload s
  | .setinstructions payload => Sys2Proof.Machine.execSetinstructions payload s
  | .loadop addr size => Sys2Proof.Machine.execLoadop addr size s
  | .storeop addr size => Sys2Proof.Machine.execStoreop addr size s

end Sys2Proof.Machine
end

