-- ==== Sys2Proof/Machine/Flags.lean ====
section
/-! DEFINITION. The single-bit flags the block reports. It has no condition codes (R44): the only flags are the five
control bits of an upper word (R99, R169), which no operation sets as a side effect. -/

namespace Sys2Proof.Machine

/-- The control bits of an upper word (R99, R169): I = 31, E = 30, M = 29, D = 28, T = 27. -/
def controlFlags (upper : Word) : ControlFlags where
  i := upper.getLsbD 31
  e := upper.getLsbD 30
  m := upper.getLsbD 29
  d := upper.getLsbD 28
  t := upper.getLsbD 27

end Sys2Proof.Machine
end

