-- ==== Sys2Proof/Machine/Idec.lean ====
section
/-! DEFINITION. IDEC's ports (41 R150 to R173): a call puts its arguments on the input wires, clears the outputs, and each
word that decodes runs its row's meaning; a word that does not is the sentinel (R159). -/

namespace Sys2Proof.Machine

/-- Decode the upper word on the port (R152, R157 to R160). -/
def runUpper (s : State) : Host.Outcome State Fault Refusal :=
  match decodeUpper s.idec.upper with
  | .ok i => exec i s
  | .error _ => .next (s.setUpperRes .bad)

/-- Decode the lower word on the port (R151, R154 to R156, R159, R160). -/
def runLower (s : State) : Host.Outcome State Fault Refusal :=
  match decodeLower s.idec.lower with
  | .ok i => exec i s
  | .error _ => .next (s.setLowerRes (.word .bad))

/-- The wires of a `decodeUpper` call. -/
def upperInput (word address : Word) : IdecPort := { IdecPort.clear with upper := word, upperAddr := address }

/-- The wires of a `decodeLower` call. -/
def lowerInput (word address : Word) : IdecPort := { IdecPort.clear with lower := word, lowerAddr := address }

/-- The wires of a `decodePair` call (R168): the upper word stands four bytes after the lower one (R72), and the flags
are read from it (R169). The address of the upper word wraps with its 32 bits (log 16). -/
def pairInput (lower upper address : Word) : IdecPort :=
  { IdecPort.clear with lower := lower, lowerAddr := address, upper := upper, upperAddr := address + 4,
                        flags := some (controlFlags upper) }

/-- The state with a call's wires. -/
def State.setIdec (s : State) (port : IdecPort) : State := { s with idec := port }

/-- `decodeUpper(word, address)` (R152). -/
def decodeUpperCall (word address : Word) (s : State) : Host.Outcome State Fault Refusal :=
  runUpper (s.setIdec (upperInput word address))

/-- `decodeLower(word, address)` (R151). -/
def decodeLowerCall (word address : Word) (s : State) : Host.Outcome State Fault Refusal :=
  runLower (s.setIdec (lowerInput word address))

/-- The lower half of a pair (R168): with I set the lower word is a float literal and is not dispatched (R99, R109). -/
def runPairLower (s : State) : Host.Outcome State Fault Refusal :=
  if (controlFlags s.idec.upper).i then
    .next (s.setLowerRes (.immFloat s.idec.lower (Config.fmtImmFloat s.idec.lower)))
  else runLower s

/-- `decodePair(lower, upper, address)` (R168): the upper word is decoded whatever the I bit holds. -/
def decodePairCall (lower upper address : Word) (s : State) : Host.Outcome State Fault Refusal :=
  match runUpper (s.setIdec (pairInput lower upper address)) with
  | .next t => runPairLower t
  | .fault f => .fault f
  | .refused r => .refused r

/-- `decodePairAt(snapshot, address)` (R72, R173): the pair is read from the snapshot's program image. -/
def decodePairAtCall (ref : SnapshotRef) (address : Word) (s : State) : Host.Outcome State Fault Refusal :=
  match s.resolve ref with
  | .error r => .refused r
  | .ok x =>
    if x.imemValid = false ∨ address.toNat % 8 ≠ 0 then .refused .badFetch
    else match memRead x.imem progBytes address.toNat 8 with
      | none => .refused .badFetch
      | some bytes =>
        if Image.wf progBytes x.imem then decodePairCall (le32 bytes) (le32 (bytes.drop 4)) address s
        else .refused .badImage

end Sys2Proof.Machine
end

