-- ==== Sys2Proof/Machine/Tsr.lean ====
section
/-! DEFINITION. TSR, the trace stream reader (47_trace_stream_reader): one packet a step (R452). -/

namespace Sys2Proof.Machine

/-- The bytes TSR has not read (R470). -/
def Tsr.rest (t : Tsr) : List Byte := t.stream.drop t.cursor

/-- One step of a `traceRead` in progress (R452), its checks in the order of R468: the packet at the cursor is applied and
the cursor moved past it, or the call ends `Done` (R466) or `Fatal` (R453, R454). -/
def tsrStep (s : State) : Host.Outcome State Fault Refusal :=
  if s.tsr.status = .running then
    match decodePacket s.params s.tsr.rest with
    | .ok (i, rest) =>
      match exec i s with
      | .next t => .next (t.setCursor (s.tsr.cursor + (s.tsr.rest.length - rest.length)))
      | .fault f => .fault f
      | .refused r => .refused r
    | .error .endOfStream => .next s.traceDone
    | .error (.badTag b) => .next (s.raiseFatal (.badTag b s.tsr.cursor))
    | .error (.truncated tag need left) => .next (s.raiseFatal (.truncated tag s.tsr.cursor need left))
  else .next { s with active := .idle }

/-- `traceRead(stream)` begins (R450, R542): TSR and EXH are reset. -/
def traceReadCall (stream : List Byte) (s : State) : Host.Outcome State Fault Refusal :=
  .next { s with tsr := Tsr.start stream, exh := Exh.reset, active := .trace }

end Sys2Proof.Machine
end

