-- ==== Sys2Proof/Machine/Ports.lean ====
section
/-! DEFINITION. The block's ports (R48, R527): serving the host's next call, and placing one word of the opcode table as the
host's next call. -/

namespace Sys2Proof.Machine

/-- `extract(value, lowBit, highBit)` (R140, R143). -/
def extractCall (value : DWord) (lowBit highBit : Nat) (s : State) : Host.Outcome State Fault Refusal :=
  match extract value lowBit highBit with
  | some x => .next { s with bfxOut := some x }
  | none => .refused .badBounds

/-- Serve one call (R48): a combinational port answers at once, a sequential one is reset and begins (R540, D1). -/
def serve (s : State) : Request → Host.Outcome State Fault Refusal
  | .extract value lowBit highBit => extractCall value lowBit highBit s
  | .decodeLower word address => decodeLowerCall word address s
  | .decodeUpper word address => decodeUpperCall word address s
  | .decodePair lower upper address => decodePairCall lower upper address s
  | .decodePairAt ref address => decodePairAtCall ref address s
  | .gsDecode ref startOffset availableBytes => gsDecodeCall ref startOffset availableBytes s
  | .traceRead stream => traceReadCall stream s

/-- No call is in progress: serve the host's next one; with none queued nothing moves (log 4). -/
def serveNext (s : State) : Host.Outcome State Fault Refusal :=
  match s.requests with
  | [] => .next s
  | r :: rest => serve { s with requests := rest } r

/-- The host's next call is the decode of one word of the opcode table, in the slot that word is read in (log 4, log 11). -/
def placeWord (s : State) (w : Word) : State :=
  { s with active := .idle,
           requests := (match tableSlot w with
             | .upper => Request.decodeUpper w 0
             | _ => Request.decodeLower w 0) :: s.requests }

/-- TSR is at the start of a stream that holds one packet of the opcode table (log 4). -/
def placePacket (s : State) (nbits w : Nat) : State :=
  { s with active := .trace, tsr := Tsr.start (tablePacket s.params nbits w), exh := Exh.reset }

/-- A word of a pair or a trace packet, as the opcode table numbers its bits, placed where the next step reads it. -/
def placeTableWord (s : State) (nbits w : Nat) : State :=
  if nbits = 32 then placeWord s (BitVec.ofNat 32 w) else placePacket s nbits w

end Sys2Proof.Machine
end

