-- ==== Sys2Proof/Machine/Step.lean ====
section
/-! DEFINITION. One step of the block: the unit whose call is in progress moves, no two together (R30); with no call in
progress the host's next call is served. -/

namespace Sys2Proof.Machine

/-- One step (R30, D1): GPD one beat, TSR one packet (with EXH at a commit), or one port call. -/
def step (s : State) : Host.Outcome State Fault Refusal :=
  match s.active with
  | .trace => tsrStep s
  | .packet => gpdStep s
  | .idle => serveNext s

/-- `s` with one instruction of the opcode table as what its next step decodes and runs (log 4, log 11). -/
def State.withFetchWord (s : State) (nbits w : Nat) : State := placeTableWord s nbits w

end Sys2Proof.Machine
end

