-- ==== Sys2Proof/Machine/OpcodeTable.lean ====
section
/-! DEFINITION. The opcode table as data: 30 R108, the rows of spec/opcode_table.json with their operand templates (R92,
R94, 41 R165, R166). The decoder does not use it (it goes level by level, R154 to R158) and neither do the meanings; R108
and R160 say that the two agree. -/

namespace Sys2Proof.Machine

/-- A token of an operand template, by the field it reads (R95, R96, R165, R166). -/
inductive Token where
  | fd | fs | ft
  | ftx | fty | ftz | ftw
  | fsSel | ftSel
  | id | is | it | vi1
  | acc | q | i | p | r
  | imm5 | imm12 | imm15 | imm24
  | target
  | offIs | offIt | baseIs | incIs | incIt | decIs | decIt
deriving DecidableEq, Repr

/-- The operand a token stands for in the word `w` at `address`. -/
def Token.operand (w address : Word) : Token → Operand
  | .fd => .vf (Field.fd w)
  | .fs => .vf (Field.fs w)
  | .ft => .vf (Field.ft w)
  | .ftx => .vfc (Field.ft w) 0
  | .fty => .vfc (Field.ft w) 1
  | .ftz => .vfc (Field.ft w) 2
  | .ftw => .vfc (Field.ft w) 3
  | .fsSel => .vfc (Field.fs w) (Field.fsf w)
  | .ftSel => .vfc (Field.ft w) (Field.ftf w)
  | .id => .vi (Field.id w)
  | .is => .vi (Field.is w)
  | .it => .vi (Field.it w)
  | .vi1 => .vi1
  | .acc => .acc
  | .q => .q
  | .i => .i
  | .p => .p
  | .r => .r
  | .imm5 => .simm (Field.imm5 w).toInt
  | .imm12 => .simm (Field.imm12 w).toInt
  | .imm15 => .simm (Field.imm15 w).toInt
  | .imm24 => .uimm (Field.imm24 w).toNat
  | .target => .target (branchTarget address (Field.imm11 w))
  | .offIs => .memOff (Field.imm11 w).toInt (Field.is w)
  | .offIt => .memOff (Field.imm11 w).toInt (Field.it w)
  | .baseIs => .memBase (Field.is w)
  | .incIs => .memInc (Field.is w)
  | .incIt => .memInc (Field.it w)
  | .decIs => .memDec (Field.is w)
  | .decIt => .memDec (Field.it w)

/-- One VU row of the opcode table: the word of a pair it stands in, its mnemonic, `w & mask = value` (R108), every bit it
reads, its opcode bits and the fields its operands name (R92, R94, R106), whether it prints a component mask, and its
operand template. -/
structure OpcodeRow where
  slot     : Slot
  mnemonic : String
  mask     : Word
  value    : Word
  read     : Word
  hasDest  : Bool
  operands : List Token
deriving DecidableEq, Repr

/-- The rows of table UPPER. -/
def rowsUpper : List OpcodeRow :=
  [ ⟨.upper, "ADDx", 0x0000003F, 0x00000000, 0x01FFFFFF, true, [.fd, .fs, .ftx]⟩,
    ⟨.upper, "ADDy", 0x0000003F, 0x00000001, 0x01FFFFFF, true, [.fd, .fs, .fty]⟩,
    ⟨.upper, "ADDz", 0x0000003F, 0x00000002, 0x01FFFFFF, true, [.fd, .fs, .ftz]⟩,
    ⟨.upper, "ADDw", 0x0000003F, 0x00000003, 0x01FFFFFF, true, [.fd, .fs, .ftw]⟩,
    ⟨.upper, "SUBx", 0x0000003F, 0x00000004, 0x01FFFFFF, true, [.fd, .fs, .ftx]⟩,
    ⟨.upper, "SUBy", 0x0000003F, 0x00000005, 0x01FFFFFF, true, [.fd, .fs, .fty]⟩,
    ⟨.upper, "SUBz", 0x0000003F, 0x00000006, 0x01FFFFFF, true, [.fd, .fs, .ftz]⟩,
    ⟨.upper, "SUBw", 0x0000003F, 0x00000007, 0x01FFFFFF, true, [.fd, .fs, .ftw]⟩,
    ⟨.upper, "MADDx", 0x0000003F, 0x00000008, 0x01FFFFFF, true, [.fd, .fs, .ftx]⟩,
    ⟨.upper, "MADDy", 0x0000003F, 0x00000009, 0x01FFFFFF, true, [.fd, .fs, .fty]⟩,
    ⟨.upper, "MADDz", 0x0000003F, 0x0000000A, 0x01FFFFFF, true, [.fd, .fs, .ftz]⟩,
    ⟨.upper, "MADDw", 0x0000003F, 0x0000000B, 0x01FFFFFF, true, [.fd, .fs, .ftw]⟩,
    ⟨.upper, "MSUBx", 0x0000003F, 0x0000000C, 0x01FFFFFF, true, [.fd, .fs, .ftx]⟩,
    ⟨.upper, "MSUBy", 0x0000003F, 0x0000000D, 0x01FFFFFF, true, [.fd, .fs, .fty]⟩,
    ⟨.upper, "MSUBz", 0x0000003F, 0x0000000E, 0x01FFFFFF, true, [.fd, .fs, .ftz]⟩,
    ⟨.upper, "MSUBw", 0x0000003F, 0x0000000F, 0x01FFFFFF, true, [.fd, .fs, .ftw]⟩,
    ⟨.upper, "MAXx", 0x0000003F, 0x00000010, 0x01FFFFFF, true, [.fd, .fs, .ftx]⟩,
    ⟨.upper, "MAXy", 0x0000003F, 0x00000011, 0x01FFFFFF, true, [.fd, .fs, .fty]⟩,
    ⟨.upper, "MAXz", 0x0000003F, 0x00000012, 0x01FFFFFF, true, [.fd, .fs, .ftz]⟩,
    ⟨.upper, "MAXw", 0x0000003F, 0x00000013, 0x01FFFFFF, true, [.fd, .fs, .ftw]⟩,
    ⟨.upper, "MINIx", 0x0000003F, 0x00000014, 0x01FFFFFF, true, [.fd, .fs, .ftx]⟩,
    ⟨.upper, "MINIy", 0x0000003F, 0x00000015, 0x01FFFFFF, true, [.fd, .fs, .fty]⟩,
    ⟨.upper, "MINIz", 0x0000003F, 0x00000016, 0x01FFFFFF, true, [.fd, .fs, .ftz]⟩,
    ⟨.upper, "MINIw", 0x0000003F, 0x00000017, 0x01FFFFFF, true, [.fd, .fs, .ftw]⟩,
    ⟨.upper, "MULx", 0x0000003F, 0x00000018, 0x01FFFFFF, true, [.fd, .fs, .ftx]⟩,
    ⟨.upper, "MULy", 0x0000003F, 0x00000019, 0x01FFFFFF, true, [.fd, .fs, .fty]⟩,
    ⟨.upper, "MULz", 0x0000003F, 0x0000001A, 0x01FFFFFF, true, [.fd, .fs, .ftz]⟩,
    ⟨.upper, "MULw", 0x0000003F, 0x0000001B, 0x01FFFFFF, true, [.fd, .fs, .ftw]⟩,
    ⟨.upper, "MULq", 0x0000003F, 0x0000001C, 0x01E0FFFF, true, [.fd, .fs, .q]⟩,
    ⟨.upper, "MAXi", 0x0000003F, 0x0000001D, 0x01E0FFFF, true, [.fd, .fs, .i]⟩,
    ⟨.upper, "MULi", 0x0000003F, 0x0000001E, 0x01E0FFFF, true, [.fd, .fs, .i]⟩,
    ⟨.upper, "MINIi", 0x0000003F, 0x0000001F, 0x01E0FFFF, true, [.fd, .fs, .i]⟩,
    ⟨.upper, "ADDq", 0x0000003F, 0x00000020, 0x01E0FFFF, true, [.fd, .fs, .q]⟩,
    ⟨.upper, "MADDq", 0x0000003F, 0x00000021, 0x01E0FFFF, true, [.fd, .fs, .q]⟩,
    ⟨.upper, "ADDi", 0x0000003F, 0x00000022, 0x01E0FFFF, true, [.fd, .fs, .i]⟩,
    ⟨.upper, "MADDi", 0x0000003F, 0x00000023, 0x01E0FFFF, true, [.fd, .fs, .i]⟩,
    ⟨.upper, "SUBq", 0x0000003F, 0x00000024, 0x01E0FFFF, true, [.fd, .fs, .q]⟩,
    ⟨.upper, "MSUBq", 0x0000003F, 0x00000025, 0x01E0FFFF, true, [.fd, .fs, .q]⟩,
    ⟨.upper, "SUBi", 0x0000003F, 0x00000026, 0x01E0FFFF, true, [.fd, .fs, .i]⟩,
    ⟨.upper, "MSUBi", 0x0000003F, 0x00000027, 0x01E0FFFF, true, [.fd, .fs, .i]⟩,
    ⟨.upper, "ADD", 0x0000003F, 0x00000028, 0x01FFFFFF, true, [.fd, .fs, .ft]⟩,
    ⟨.upper, "MADD", 0x0000003F, 0x00000029, 0x01FFFFFF, true, [.fd, .fs, .ft]⟩,
    ⟨.upper, "MUL", 0x0000003F, 0x0000002A, 0x01FFFFFF, true, [.fd, .fs, .ft]⟩,
    ⟨.upper, "MAX", 0x0000003F, 0x0000002B, 0x01FFFFFF, true, [.fd, .fs, .ft]⟩,
    ⟨.upper, "SUB", 0x0000003F, 0x0000002C, 0x01FFFFFF, true, [.fd, .fs, .ft]⟩,
    ⟨.upper, "MSUB", 0x0000003F, 0x0000002D, 0x01FFFFFF, true, [.fd, .fs, .ft]⟩,
    ⟨.upper, "OPMSUB", 0x0000003F, 0x0000002E, 0x01FFFFFF, true, [.fd, .fs, .ft]⟩,
    ⟨.upper, "MINI", 0x0000003F, 0x0000002F, 0x01FFFFFF, true, [.fd, .fs, .ft]⟩ ]

/-- The rows of table FD_00. -/
def rowsFd00 : List OpcodeRow :=
  [ ⟨.upper, "ADDAx", 0x000007FF, 0x0000003C, 0x01FFFFFF, true, [.acc, .fs, .ftx]⟩,
    ⟨.upper, "SUBAx", 0x000007FF, 0x0000007C, 0x01FFFFFF, true, [.acc, .fs, .ftx]⟩,
    ⟨.upper, "MADDAx", 0x000007FF, 0x000000BC, 0x01FFFFFF, true, [.acc, .fs, .ftx]⟩,
    ⟨.upper, "MSUBAx", 0x000007FF, 0x000000FC, 0x01FFFFFF, true, [.acc, .fs, .ftx]⟩,
    ⟨.upper, "ITOF0", 0x000007FF, 0x0000013C, 0x01FFFFFF, true, [.ft, .fs]⟩,
    ⟨.upper, "FTOI0", 0x000007FF, 0x0000017C, 0x01FFFFFF, true, [.ft, .fs]⟩,
    ⟨.upper, "MULAx", 0x000007FF, 0x000001BC, 0x01FFFFFF, true, [.acc, .fs, .ftx]⟩,
    ⟨.upper, "MULAq", 0x000007FF, 0x000001FC, 0x01E0FFFF, true, [.acc, .fs, .q]⟩,
    ⟨.upper, "ADDAq", 0x000007FF, 0x0000023C, 0x01E0FFFF, true, [.acc, .fs, .q]⟩,
    ⟨.upper, "SUBAq", 0x000007FF, 0x0000027C, 0x01E0FFFF, true, [.acc, .fs, .q]⟩,
    ⟨.upper, "ADDA", 0x000007FF, 0x000002BC, 0x01FFFFFF, true, [.acc, .fs, .ft]⟩,
    ⟨.upper, "SUBA", 0x000007FF, 0x000002FC, 0x01FFFFFF, true, [.acc, .fs, .ft]⟩ ]

/-- The rows of table FD_01. -/
def rowsFd01 : List OpcodeRow :=
  [ ⟨.upper, "ADDAy", 0x000007FF, 0x0000003D, 0x01FFFFFF, true, [.acc, .fs, .fty]⟩,
    ⟨.upper, "SUBAy", 0x000007FF, 0x0000007D, 0x01FFFFFF, true, [.acc, .fs, .fty]⟩,
    ⟨.upper, "MADDAy", 0x000007FF, 0x000000BD, 0x01FFFFFF, true, [.acc, .fs, .fty]⟩,
    ⟨.upper, "MSUBAy", 0x000007FF, 0x000000FD, 0x01FFFFFF, true, [.acc, .fs, .fty]⟩,
    ⟨.upper, "ITOF4", 0x000007FF, 0x0000013D, 0x01FFFFFF, true, [.ft, .fs]⟩,
    ⟨.upper, "FTOI4", 0x000007FF, 0x0000017D, 0x01FFFFFF, true, [.ft, .fs]⟩,
    ⟨.upper, "MULAy", 0x000007FF, 0x000001BD, 0x01FFFFFF, true, [.acc, .fs, .fty]⟩,
    ⟨.upper, "ABS", 0x000007FF, 0x000001FD, 0x01FFFFFF, true, [.ft, .fs]⟩,
    ⟨.upper, "MADDAq", 0x000007FF, 0x0000023D, 0x01E0FFFF, true, [.acc, .fs, .q]⟩,
    ⟨.upper, "MSUBAq", 0x000007FF, 0x0000027D, 0x01E0FFFF, true, [.acc, .fs, .q]⟩,
    ⟨.upper, "MADDA", 0x000007FF, 0x000002BD, 0x01FFFFFF, true, [.acc, .fs, .ft]⟩,
    ⟨.upper, "MSUBA", 0x000007FF, 0x000002FD, 0x01FFFFFF, true, [.acc, .fs, .ft]⟩ ]

/-- The rows of table FD_10. -/
def rowsFd10 : List OpcodeRow :=
  [ ⟨.upper, "ADDAz", 0x000007FF, 0x0000003E, 0x01FFFFFF, true, [.acc, .fs, .ftz]⟩,
    ⟨.upper, "SUBAz", 0x000007FF, 0x0000007E, 0x01FFFFFF, true, [.acc, .fs, .ftz]⟩,
    ⟨.upper, "MADDAz", 0x000007FF, 0x000000BE, 0x01FFFFFF, true, [.acc, .fs, .ftz]⟩,
    ⟨.upper, "MSUBAz", 0x000007FF, 0x000000FE, 0x01FFFFFF, true, [.acc, .fs, .ftz]⟩,
    ⟨.upper, "ITOF12", 0x000007FF, 0x0000013E, 0x01FFFFFF, true, [.ft, .fs]⟩,
    ⟨.upper, "FTOI12", 0x000007FF, 0x0000017E, 0x01FFFFFF, true, [.ft, .fs]⟩,
    ⟨.upper, "MULAz", 0x000007FF, 0x000001BE, 0x01FFFFFF, true, [.acc, .fs, .ftz]⟩,
    ⟨.upper, "MULAi", 0x000007FF, 0x000001FE, 0x01E0FFFF, true, [.acc, .fs, .i]⟩,
    ⟨.upper, "ADDAi", 0x000007FF, 0x0000023E, 0x01E0FFFF, true, [.acc, .fs, .i]⟩,
    ⟨.upper, "SUBAi", 0x000007FF, 0x0000027E, 0x01E0FFFF, true, [.acc, .fs, .i]⟩,
    ⟨.upper, "MULA", 0x000007FF, 0x000002BE, 0x01FFFFFF, true, [.acc, .fs, .ft]⟩,
    ⟨.upper, "OPMULA", 0x000007FF, 0x000002FE, 0x01FFFFFF, true, [.acc, .fs, .ft]⟩ ]

/-- The rows of table FD_11. -/
def rowsFd11 : List OpcodeRow :=
  [ ⟨.upper, "ADDAw", 0x000007FF, 0x0000003F, 0x01FFFFFF, true, [.acc, .fs, .ftw]⟩,
    ⟨.upper, "SUBAw", 0x000007FF, 0x0000007F, 0x01FFFFFF, true, [.acc, .fs, .ftw]⟩,
    ⟨.upper, "MADDAw", 0x000007FF, 0x000000BF, 0x01FFFFFF, true, [.acc, .fs, .ftw]⟩,
    ⟨.upper, "MSUBAw", 0x000007FF, 0x000000FF, 0x01FFFFFF, true, [.acc, .fs, .ftw]⟩,
    ⟨.upper, "ITOF15", 0x000007FF, 0x0000013F, 0x01FFFFFF, true, [.ft, .fs]⟩,
    ⟨.upper, "FTOI15", 0x000007FF, 0x0000017F, 0x01FFFFFF, true, [.ft, .fs]⟩,
    ⟨.upper, "MULAw", 0x000007FF, 0x000001BF, 0x01FFFFFF, true, [.acc, .fs, .ftw]⟩,
    ⟨.upper, "CLIPw", 0x000007FF, 0x000001FF, 0x01FFFFFF, true, [.fs, .ftw]⟩,
    ⟨.upper, "MADDAi", 0x000007FF, 0x0000023F, 0x01E0FFFF, true, [.acc, .fs, .i]⟩,
    ⟨.upper, "MSUBAi", 0x000007FF, 0x0000027F, 0x01E0FFFF, true, [.acc, .fs, .i]⟩,
    ⟨.upper, "NOP", 0x000007FF, 0x000002FF, 0x000007FF, false, []⟩ ]

/-- The rows of table LOWER. -/
def rowsLower : List OpcodeRow :=
  [ ⟨.lower, "LQ", 0xFE000000, 0x00000000, 0xFFFF7FFF, true, [.ft, .offIs]⟩,
    ⟨.lower, "SQ", 0xFE000000, 0x02000000, 0xFFEFFFFF, true, [.fs, .offIt]⟩,
    ⟨.lower, "ILW", 0xFE000000, 0x08000000, 0xFFEF7FFF, true, [.it, .offIs]⟩,
    ⟨.lower, "ISW", 0xFE000000, 0x0A000000, 0xFFEF7FFF, true, [.it, .offIs]⟩,
    ⟨.lower, "IADDIU", 0xFE000000, 0x10000000, 0xFFEF7FFF, false, [.it, .is, .imm15]⟩,
    ⟨.lower, "ISUBIU", 0xFE000000, 0x12000000, 0xFFEF7FFF, false, [.it, .is, .imm15]⟩,
    ⟨.lower, "FCEQ", 0xFE000000, 0x20000000, 0xFEFFFFFF, false, [.vi1, .imm24]⟩,
    ⟨.lower, "FCSET", 0xFE000000, 0x22000000, 0xFEFFFFFF, false, [.imm24]⟩,
    ⟨.lower, "FCAND", 0xFE000000, 0x24000000, 0xFEFFFFFF, false, [.vi1, .imm24]⟩,
    ⟨.lower, "FCOR", 0xFE000000, 0x26000000, 0xFEFFFFFF, false, [.vi1, .imm24]⟩,
    ⟨.lower, "FSEQ", 0xFE000000, 0x28000000, 0xFE2F07FF, false, [.it, .imm12]⟩,
    ⟨.lower, "FSSET", 0xFE000000, 0x2A000000, 0xFE2007FF, false, [.imm12]⟩,
    ⟨.lower, "FSAND", 0xFE000000, 0x2C000000, 0xFE2F07FF, false, [.it, .imm12]⟩,
    ⟨.lower, "FSOR", 0xFE000000, 0x2E000000, 0xFE2F07FF, false, [.it, .imm12]⟩,
    ⟨.lower, "FMEQ", 0xFE000000, 0x30000000, 0xFE0F7800, false, [.it, .is]⟩,
    ⟨.lower, "FMAND", 0xFE000000, 0x34000000, 0xFE0F7800, false, [.it, .is]⟩,
    ⟨.lower, "FMOR", 0xFE000000, 0x36000000, 0xFE0F7800, false, [.it, .is]⟩,
    ⟨.lower, "FCGET", 0xFE000000, 0x38000000, 0xFE0F0000, false, [.it]⟩,
    ⟨.lower, "B", 0xFE000000, 0x40000000, 0xFE0007FF, false, [.target]⟩,
    ⟨.lower, "BAL", 0xFE000000, 0x42000000, 0xFE0F07FF, false, [.it, .target]⟩,
    ⟨.lower, "JR", 0xFE000000, 0x48000000, 0xFE007800, false, [.is]⟩,
    ⟨.lower, "JALR", 0xFE000000, 0x4A000000, 0xFE0F7800, false, [.it, .is]⟩,
    ⟨.lower, "IBEQ", 0xFE000000, 0x50000000, 0xFE0F7FFF, false, [.it, .is, .target]⟩,
    ⟨.lower, "IBNE", 0xFE000000, 0x52000000, 0xFE0F7FFF, false, [.it, .is, .target]⟩,
    ⟨.lower, "IBLTZ", 0xFE000000, 0x58000000, 0xFE007FFF, false, [.is, .target]⟩,
    ⟨.lower, "IBGTZ", 0xFE000000, 0x5A000000, 0xFE007FFF, false, [.is, .target]⟩,
    ⟨.lower, "IBLEZ", 0xFE000000, 0x5C000000, 0xFE007FFF, false, [.is, .target]⟩,
    ⟨.lower, "IBGEZ", 0xFE000000, 0x5E000000, 0xFE007FFF, false, [.is, .target]⟩ ]

/-- The rows of table LOWEROP. -/
def rowsLowerOp : List OpcodeRow :=
  [ ⟨.lower, "IADD", 0xFE00003F, 0x80000030, 0xFE0F7BFF, false, [.id, .is, .it]⟩,
    ⟨.lower, "ISUB", 0xFE00003F, 0x80000031, 0xFE0F7BFF, false, [.id, .is, .it]⟩,
    ⟨.lower, "IADDI", 0xFE00003F, 0x80000032, 0xFE0F7FFF, false, [.it, .is, .imm5]⟩,
    ⟨.lower, "IAND", 0xFE00003F, 0x80000034, 0xFE0F7BFF, false, [.id, .is, .it]⟩,
    ⟨.lower, "IOR", 0xFE00003F, 0x80000035, 0xFE0F7BFF, false, [.id, .is, .it]⟩ ]

/-- The rows of table T3_00. -/
def rowsT300 : List OpcodeRow :=
  [ ⟨.lower, "MOVE", 0xFE0007FF, 0x8000033C, 0xFFFFFFFF, true, [.ft, .fs]⟩,
    ⟨.lower, "LQI", 0xFE0007FF, 0x8000037C, 0xFFFF7FFF, true, [.ft, .incIs]⟩,
    ⟨.lower, "DIV", 0xFE0007FF, 0x800003BC, 0xFFFFFFFF, false, [.q, .fsSel, .ftSel]⟩,
    ⟨.lower, "MTIR", 0xFE0007FF, 0x800003FC, 0xFE6FFFFF, false, [.it, .fsSel]⟩,
    ⟨.lower, "RNEXT", 0xFE0007FF, 0x8000043C, 0xFFFF07FF, true, [.ft, .r]⟩,
    ⟨.lower, "MFP", 0xFE0007FF, 0x8000067C, 0xFFFF07FF, true, [.ft, .p]⟩,
    ⟨.lower, "XTOP", 0xFE0007FF, 0x800006BC, 0xFE0F07FF, false, [.it]⟩,
    ⟨.lower, "XGKICK", 0xFE0007FF, 0x800006FC, 0xFE007FFF, false, [.is]⟩,
    ⟨.lower, "ESADD", 0xFE0007FF, 0x8000073C, 0xFE00FFFF, false, [.p, .fs]⟩,
    ⟨.lower, "EATANxy", 0xFE0007FF, 0x8000077C, 0xFE00FFFF, false, [.p, .fs]⟩,
    ⟨.lower, "ESQRT", 0xFE0007FF, 0x800007BC, 0xFE60FFFF, false, [.p, .fsSel]⟩,
    ⟨.lower, "ESIN", 0xFE0007FF, 0x800007FC, 0xFE60FFFF, false, [.p, .fsSel]⟩ ]

/-- The rows of table T3_01. -/
def rowsT301 : List OpcodeRow :=
  [ ⟨.lower, "MR32", 0xFE0007FF, 0x8000033D, 0xFFFFFFFF, true, [.ft, .fs]⟩,
    ⟨.lower, "SQI", 0xFE0007FF, 0x8000037D, 0xFFEFFFFF, true, [.fs, .incIt]⟩,
    ⟨.lower, "SQRT", 0xFE0007FF, 0x800003BD, 0xFF9F07FF, false, [.q, .ftSel]⟩,
    ⟨.lower, "MFIR", 0xFE0007FF, 0x800003FD, 0xFFFF7FFF, true, [.ft, .is]⟩,
    ⟨.lower, "RGET", 0xFE0007FF, 0x8000043D, 0xFFFF07FF, true, [.ft, .r]⟩,
    ⟨.lower, "XITOP", 0xFE0007FF, 0x800006BD, 0xFE0F07FF, false, [.it]⟩,
    ⟨.lower, "ERSADD", 0xFE0007FF, 0x8000073D, 0xFE00FFFF, false, [.p, .fs]⟩,
    ⟨.lower, "EATANxz", 0xFE0007FF, 0x8000077D, 0xFE00FFFF, false, [.p, .fs]⟩,
    ⟨.lower, "ERSQRT", 0xFE0007FF, 0x800007BD, 0xFE60FFFF, false, [.p, .fsSel]⟩,
    ⟨.lower, "EATAN", 0xFE0007FF, 0x800007FD, 0xFE60FFFF, false, [.p, .fsSel]⟩ ]

/-- The rows of table T3_10. -/
def rowsT310 : List OpcodeRow :=
  [ ⟨.lower, "LQD", 0xFE0007FF, 0x8000037E, 0xFFFF7FFF, true, [.ft, .decIs]⟩,
    ⟨.lower, "RSQRT", 0xFE0007FF, 0x800003BE, 0xFFFFFFFF, false, [.q, .fsSel, .ftSel]⟩,
    ⟨.lower, "ILWR", 0xFE0007FF, 0x800003FE, 0xFFEF7FFF, true, [.it, .baseIs]⟩,
    ⟨.lower, "RINIT", 0xFE0007FF, 0x8000043E, 0xFE60FFFF, false, [.r, .fsSel]⟩,
    ⟨.lower, "ELENG", 0xFE0007FF, 0x8000073E, 0xFE00FFFF, false, [.p, .fs]⟩,
    ⟨.lower, "ESUM", 0xFE0007FF, 0x8000077E, 0xFE00FFFF, false, [.p, .fs]⟩,
    ⟨.lower, "ERCPR", 0xFE0007FF, 0x800007BE, 0xFE60FFFF, false, [.p, .fsSel]⟩,
    ⟨.lower, "EEXP", 0xFE0007FF, 0x800007FE, 0xFE60FFFF, false, [.p, .fsSel]⟩ ]

/-- The rows of table T3_11. -/
def rowsT311 : List OpcodeRow :=
  [ ⟨.lower, "SQD", 0xFE0007FF, 0x8000037F, 0xFFEFFFFF, true, [.fs, .decIt]⟩,
    ⟨.lower, "WAITQ", 0xFE0007FF, 0x800003BF, 0xFE0007FF, false, []⟩,
    ⟨.lower, "ISWR", 0xFE0007FF, 0x800003FF, 0xFFEF7FFF, true, [.it, .baseIs]⟩,
    ⟨.lower, "RXOR", 0xFE0007FF, 0x8000043F, 0xFE60FFFF, false, [.r, .fsSel]⟩,
    ⟨.lower, "ERLENG", 0xFE0007FF, 0x8000073F, 0xFE00FFFF, false, [.p, .fs]⟩,
    ⟨.lower, "WAITP", 0xFE0007FF, 0x800007BF, 0xFE0007FF, false, []⟩ ]

/-- The 164 VU rows (R105: 95 upper, 69 lower). -/
def opcodeTable : List OpcodeRow :=
  rowsUpper ++ rowsFd00 ++ rowsFd01 ++ rowsFd10 ++ rowsFd11 ++ rowsLower
    ++ rowsLowerOp ++ rowsT300 ++ rowsT301 ++ rowsT310 ++ rowsT311

/-- The row a word selects by mask and match (R108). -/
def OpcodeRow.selects (r : OpcodeRow) (w : Word) : Bool := w &&& r.mask == r.value

/-- `text(row, f)` (R167) of a row for the word `w` at `address`. -/
def OpcodeRow.text (r : OpcodeRow) (w address : Word) : String :=
  lineText r.mnemonic (if r.hasDest then some (Field.dest w) else none) (r.operands.map (Token.operand w address))

end Sys2Proof.Machine

namespace Sys2Proof

/-- The row of the opcode table an instruction stands for, by its mnemonic. -/
def Instr.mnemonic : Instr → String
  | .addx _ _ _ _ => "ADDx"
  | .addy _ _ _ _ => "ADDy"
  | .addz _ _ _ _ => "ADDz"
  | .addw _ _ _ _ => "ADDw"
  | .subx _ _ _ _ => "SUBx"
  | .suby _ _ _ _ => "SUBy"
  | .subz _ _ _ _ => "SUBz"
  | .subw _ _ _ _ => "SUBw"
  | .maddx _ _ _ _ => "MADDx"
  | .maddy _ _ _ _ => "MADDy"
  | .maddz _ _ _ _ => "MADDz"
  | .maddw _ _ _ _ => "MADDw"
  | .msubx _ _ _ _ => "MSUBx"
  | .msuby _ _ _ _ => "MSUBy"
  | .msubz _ _ _ _ => "MSUBz"
  | .msubw _ _ _ _ => "MSUBw"
  | .maxx _ _ _ _ => "MAXx"
  | .maxy _ _ _ _ => "MAXy"
  | .maxz _ _ _ _ => "MAXz"
  | .maxw _ _ _ _ => "MAXw"
  | .minix _ _ _ _ => "MINIx"
  | .miniy _ _ _ _ => "MINIy"
  | .miniz _ _ _ _ => "MINIz"
  | .miniw _ _ _ _ => "MINIw"
  | .mulx _ _ _ _ => "MULx"
  | .muly _ _ _ _ => "MULy"
  | .mulz _ _ _ _ => "MULz"
  | .mulw _ _ _ _ => "MULw"
  | .mulq _ _ _ => "MULq"
  | .maxi _ _ _ => "MAXi"
  | .muli _ _ _ => "MULi"
  | .minii _ _ _ => "MINIi"
  | .addq _ _ _ => "ADDq"
  | .maddq _ _ _ => "MADDq"
  | .addi _ _ _ => "ADDi"
  | .maddi _ _ _ => "MADDi"
  | .subq _ _ _ => "SUBq"
  | .msubq _ _ _ => "MSUBq"
  | .subi _ _ _ => "SUBi"
  | .msubi _ _ _ => "MSUBi"
  | .add _ _ _ _ => "ADD"
  | .madd _ _ _ _ => "MADD"
  | .mul _ _ _ _ => "MUL"
  | .max _ _ _ _ => "MAX"
  | .sub _ _ _ _ => "SUB"
  | .msub _ _ _ _ => "MSUB"
  | .opmsub _ _ _ _ => "OPMSUB"
  | .mini _ _ _ _ => "MINI"
  | .addax _ _ _ => "ADDAx"
  | .subax _ _ _ => "SUBAx"
  | .maddax _ _ _ => "MADDAx"
  | .msubax _ _ _ => "MSUBAx"
  | .itof0 _ _ _ => "ITOF0"
  | .ftoi0 _ _ _ => "FTOI0"
  | .mulax _ _ _ => "MULAx"
  | .mulaq _ _ => "MULAq"
  | .addaq _ _ => "ADDAq"
  | .subaq _ _ => "SUBAq"
  | .adda _ _ _ => "ADDA"
  | .suba _ _ _ => "SUBA"
  | .adday _ _ _ => "ADDAy"
  | .subay _ _ _ => "SUBAy"
  | .madday _ _ _ => "MADDAy"
  | .msubay _ _ _ => "MSUBAy"
  | .itof4 _ _ _ => "ITOF4"
  | .ftoi4 _ _ _ => "FTOI4"
  | .mulay _ _ _ => "MULAy"
  | .abs _ _ _ => "ABS"
  | .maddaq _ _ => "MADDAq"
  | .msubaq _ _ => "MSUBAq"
  | .madda _ _ _ => "MADDA"
  | .msuba _ _ _ => "MSUBA"
  | .addaz _ _ _ => "ADDAz"
  | .subaz _ _ _ => "SUBAz"
  | .maddaz _ _ _ => "MADDAz"
  | .msubaz _ _ _ => "MSUBAz"
  | .itof12 _ _ _ => "ITOF12"
  | .ftoi12 _ _ _ => "FTOI12"
  | .mulaz _ _ _ => "MULAz"
  | .mulai _ _ => "MULAi"
  | .addai _ _ => "ADDAi"
  | .subai _ _ => "SUBAi"
  | .mula _ _ _ => "MULA"
  | .opmula _ _ _ => "OPMULA"
  | .addaw _ _ _ => "ADDAw"
  | .subaw _ _ _ => "SUBAw"
  | .maddaw _ _ _ => "MADDAw"
  | .msubaw _ _ _ => "MSUBAw"
  | .itof15 _ _ _ => "ITOF15"
  | .ftoi15 _ _ _ => "FTOI15"
  | .mulaw _ _ _ => "MULAw"
  | .clipw _ _ _ => "CLIPw"
  | .maddai _ _ => "MADDAi"
  | .msubai _ _ => "MSUBAi"
  | .nop => "NOP"
  | .lq _ _ _ _ => "LQ"
  | .sq _ _ _ _ => "SQ"
  | .ilw _ _ _ _ => "ILW"
  | .isw _ _ _ _ => "ISW"
  | .iaddiu _ _ _ => "IADDIU"
  | .isubiu _ _ _ => "ISUBIU"
  | .fceq _ => "FCEQ"
  | .fcset _ => "FCSET"
  | .fcand _ => "FCAND"
  | .fcor _ => "FCOR"
  | .fseq _ _ => "FSEQ"
  | .fsset _ => "FSSET"
  | .fsand _ _ => "FSAND"
  | .fsor _ _ => "FSOR"
  | .fmeq _ _ => "FMEQ"
  | .fmand _ _ => "FMAND"
  | .fmor _ _ => "FMOR"
  | .fcget _ => "FCGET"
  | .b _ => "B"
  | .bal _ _ => "BAL"
  | .jr _ => "JR"
  | .jalr _ _ => "JALR"
  | .ibeq _ _ _ => "IBEQ"
  | .ibne _ _ _ => "IBNE"
  | .ibltz _ _ => "IBLTZ"
  | .ibgtz _ _ => "IBGTZ"
  | .iblez _ _ => "IBLEZ"
  | .ibgez _ _ => "IBGEZ"
  | .iadd _ _ _ => "IADD"
  | .isub _ _ _ => "ISUB"
  | .iaddi _ _ _ => "IADDI"
  | .iand _ _ _ => "IAND"
  | .ior _ _ _ => "IOR"
  | .move _ _ _ => "MOVE"
  | .lqi _ _ _ => "LQI"
  | .div _ _ _ _ => "DIV"
  | .mtir _ _ _ => "MTIR"
  | .rnext _ _ => "RNEXT"
  | .mfp _ _ => "MFP"
  | .xtop _ => "XTOP"
  | .xgkick _ => "XGKICK"
  | .esadd _ => "ESADD"
  | .eatanxy _ => "EATANxy"
  | .esqrt _ _ => "ESQRT"
  | .esin _ _ => "ESIN"
  | .mr32 _ _ _ => "MR32"
  | .sqi _ _ _ => "SQI"
  | .sqrt _ _ => "SQRT"
  | .mfir _ _ _ => "MFIR"
  | .rget _ _ => "RGET"
  | .xitop _ => "XITOP"
  | .ersadd _ => "ERSADD"
  | .eatanxz _ => "EATANxz"
  | .ersqrt _ _ => "ERSQRT"
  | .eatan _ _ => "EATAN"
  | .lqd _ _ _ => "LQD"
  | .rsqrt _ _ _ _ => "RSQRT"
  | .ilwr _ _ _ => "ILWR"
  | .rinit _ _ => "RINIT"
  | .eleng _ => "ELENG"
  | .esum _ => "ESUM"
  | .ercpr _ _ => "ERCPR"
  | .eexp _ _ => "EEXP"
  | .sqd _ _ _ => "SQD"
  | .waitq => "WAITQ"
  | .iswr _ _ _ => "ISWR"
  | .rxor _ _ => "RXOR"
  | .erleng _ => "ERLENG"
  | .waitp => "WAITP"
  | .pushsnapshot => "PUSHSNAPSHOT"
  | .setregisters _ => "SETREGISTERS"
  | .setmemory _ => "SETMEMORY"
  | .setinstructions _ => "SETINSTRUCTIONS"
  | .loadop _ _ => "LOADOP"
  | .storeop _ _ => "STOREOP"

end Sys2Proof
end

