-- ==== Sys2Proof/Safety.lean ====
section
/-! DEFINITION. What a safe state and a safe run are, in the terms the statements use: the canonical forms and invariants of
each unit, and the reference descriptions of a whole trace that rules R463 (freshness) and R501 to R503 (accounting) give. -/

namespace Sys2Proof.Machine

/-! ### Images -/

/-- The three images of a snapshot are in canonical form and inside their sizes (R36, R46). -/
abbrev Snapshot.Wf (p : Params) (x : Snapshot) : Prop :=
  Image.wf p.regBlockBytes x.regs = true ∧ Image.wf dataBytes x.dmem = true ∧ Image.wf progBytes x.imem = true

/-- TSR: canonical images, and a cursor inside the stream (R40). -/
abbrev Tsr.Wf (p : Params) (t : Tsr) : Prop :=
  t.acc.Wf p ∧ (∀ x ∈ t.snapshots, x.Wf p) ∧ t.cursor ≤ t.stream.length

/-! ### EXH -/

/-- A record's own consistency (R43, R494, R503): `executed` says whether it was counted, the maps are canonical with keys
inside the program image, and it was entered by edges at most as often as it was executed. -/
abbrev Record.Wf (r : Record) : Prop :=
  (r.executed = true ↔ 0 < r.timesExecuted) ∧ Sparse.wf 0 0 progBytes r.branchTo = true
    ∧ Sparse.wf 0 0 progBytes r.branchFrom = true ∧ Sparse.total r.branchFrom ≤ r.timesExecuted

/-- 1 for the record of the last counted pc, which has no departure yet (R501), else 0. -/
def Exh.openEnd (e : Exh) (k : Nat) : Nat :=
  match e.prevPc with
  | some p => if recordIndex p = k then 1 else 0
  | none => 0

/-- The sum of all `branchTo` counts (R502). -/
def Exh.edgesOut (e : Exh) : Nat := (e.records.map fun kr => Sparse.total kr.2.branchTo).sum

/-- The sum of all `branchFrom` counts (R502). -/
def Exh.edgesIn (e : Exh) : Nat := (e.records.map fun kr => Sparse.total kr.2.branchFrom).sum

/-- EXH's invariant: canonical records inside the table (R43), each consistent (R503), departures accounted for up to the
open end (R501), equal edge totals (R502), and a previous pc inside the program image (R499). -/
abbrev Exh.Wf (e : Exh) : Prop :=
  Sparse.wf Record.reset 0 nRecords e.records = true
    ∧ (∀ k, k < nRecords →
        (e.record k).Wf ∧ Sparse.total (e.record k).branchTo + e.openEnd k ≤ (e.record k).timesExecuted)
    ∧ e.edgesOut = e.edgesIn
    ∧ (∀ p ∈ e.prevPc, p.toNat < progBytes)

/-! ### GPD -/

/-- A primitive all of whose items were read (R412, R416). -/
abbrev GsPrimitive.Full (p : GsPrimitive) : Prop := p.tag.mode = .packed ∧ p.items.length = p.tag.itemCount

/-- The beats a packet was read from: one for each tag and one for each item (R403). -/
def beatsOf (packet : List GsPrimitive) : Nat := (packet.map fun p => 1 + p.items.length).sum

/-- What the phase says of the last primitive while tags or items are to come (R405, R412, R416). -/
def Gpd.PhaseWf (g : Gpd) : Prop :=
  match g.phase with
  | .tag => ∀ p ∈ g.packet.getLast?, p.Full ∧ p.tag.eop = false
  | .items l r => ∃ p, g.packet.getLast? = some p ∧ p.tag.mode = .packed ∧ l < p.tag.nloop.toNat
      ∧ r < p.tag.regs.length ∧ p.items.length = l * p.tag.regs.length + r

/-- What the status says of the packet (R404, R411, R416, R417). -/
def Gpd.StatusWf (g : Gpd) : Prop :=
  match g.status with
  | .running => g.PhaseWf
  | .complete => ∃ p, g.packet.getLast? = some p ∧ p.Full ∧ p.tag.eop = true
  | .partialEnd (.overrun what pos) =>
      g.PhaseWf ∧ what = g.phase.beat ∧ pos = g.cursor ∧ g.limit < g.cursor + 16
  | .partialEnd (.unsupportedMode m) =>
      m ≠ .packed ∧ ∃ p, g.packet.getLast? = some p ∧ p.tag.mode = m ∧ p.items = []

/-- GPD's invariant: the window inside the image (R401), the cursor inside the window and at 16 times the beats read (R403,
R418), each register list of its effective length (R408), and a packet of the form R417 describes. -/
def Gpd.Wf (g : Gpd) : Prop :=
  Image.wf dataBytes g.dmem = true ∧ g.base + g.limit ≤ dataBytes ∧ g.cursor ≤ g.limit
    ∧ g.cursor = 16 * beatsOf g.packet
    ∧ (∀ p ∈ g.packet, p.tag.regs.length = effectiveCount p.tag.nreg)
    ∧ (∀ p ∈ g.packet.dropLast, p.Full ∧ p.tag.eop = false)
    ∧ g.StatusWf

/-- The item that stands at `addr`, read under `reg` (R412 to R415). -/
def readItem (img : Image) (addr : Nat) (reg : BitVec 4) : GsItem where
  addr := addr
  reg := reg
  raw := Image.bytesFrom img addr 16
  decoded := interpret reg (le64 (Image.bytesFrom img addr 16)) (le64 ((Image.bytesFrom img addr 16).drop 8))

/-- The items are the beats from `addr` on, item `j` under register slot `j mod n`: loop-major order (R412). -/
def ItemsRead (img : Image) (regs : List (BitVec 4)) : Nat → Nat → List GsItem → Prop
  | _, _, [] => True
  | addr, j, item :: rest =>
    (∃ reg, regs[j % regs.length]? = some reg ∧ item = readItem img addr reg) ∧ ItemsRead img regs (addr + 16) (j + 1) rest

/-- The primitives are what stands in the image from `addr` on: each tag its beat (R405), then its items. -/
def PacketRead (img : Image) : Nat → List GsPrimitive → Prop
  | _, [] => True
  | addr, p :: rest =>
    p.tag = tagOfBeat (le64 (Image.bytesFrom img addr 16)) (le64 ((Image.bytesFrom img addr 16).drop 8))
      ∧ ItemsRead img p.tag.regs (addr + 16) 0 p.items
      ∧ PacketRead img (addr + 16 * (1 + p.items.length)) rest

/-! ### The block -/

/-- The invariant of the block: what every reachable state satisfies. -/
def State.Wf (s : State) : Prop := s.params.ok ∧ s.tsr.Wf s.params ∧ s.exh.Wf ∧ s.gpd.Wf

/-- A step that does not stop the block with a fault: the only stops are the model's refusals of calls that have no
meaning (R510, R513). -/
def NoFault (o : Host.Outcome State Fault Refusal) : Prop := ∀ f, o ≠ .fault f

/-- `Instr(row, f, text)` on the upper output (R152, R160), and nothing else changed: the frame of every upper row. -/
def State.shownUpper (s : State) (row text : String) : State :=
  { s with idec := { s.idec with upperRes := some (.instr row (Fields.ofUpper s.idec.upper) text) } }

/-- `Instr(row, f, text)` on the lower output (R151, R160), and nothing else changed: the frame of every lower row. -/
def State.shownLower (s : State) (row text : String) : State :=
  { s with idec := { s.idec with
      lowerRes := some (.word (.instr row (Fields.ofLower s.idec.lower s.idec.lowerAddr) text)) } }

/-- Why a queued call is refused (R13, R143, R173, R401, R511; log 12 for the last two, log 22 for the order of
the tests). -/
def RefusedFor (s : State) (q : Request) : Refusal → Prop
  | .badBounds => ∃ v lo hi, q = .extract v lo hi ∧ (hi < lo ∨ 63 < hi)
  | .badFetch => ∃ ref a x, q = .decodePairAt ref a ∧ s.resolve ref = .ok x
      ∧ (x.imemValid = false ∨ a.toNat % 8 ≠ 0 ∨ progBytes < a.toNat + 8)
  | .badWindow => ∃ ref off n x, q = .gsDecode ref off n ∧ s.resolve ref = .ok x ∧ x.dmemValid = true
      ∧ dataBytes < off + n
  | .invalidComponent => ∃ ref off n x, q = .gsDecode ref off n ∧ s.resolve ref = .ok x ∧ x.dmemValid = false
  | .noSnapshot => ∃ k, s.hostSnapshots.length ≤ k
      ∧ ((∃ a, q = .decodePairAt (.committed k) a) ∨ ∃ off n, q = .gsDecode (.committed k) off n)
  | .badImage =>
      (∃ ref a x, q = .decodePairAt ref a ∧ s.resolve ref = .ok x ∧ x.imemValid = true ∧ a.toNat % 8 = 0
        ∧ a.toNat + 8 ≤ progBytes ∧ Image.wf progBytes x.imem = false)
      ∨ ∃ ref off n x, q = .gsDecode ref off n ∧ s.resolve ref = .ok x ∧ x.dmemValid = true ∧ off + n ≤ dataBytes
        ∧ Image.wf dataBytes x.dmem = false
  | _ => False

/-! ### A whole trace (R463, R491) -/

/-- The last SETREGISTERS payload before a point (R463). -/
def lastRegisters (before : List Instr) : Option (List Byte) :=
  before.reverse.findSome? fun i =>
    match i with
    | .setregisters payload => some payload
    | _ => none

/-- The last SETMEMORY payload before a point (R463). -/
def lastMemory (before : List Instr) : Option (List Byte) :=
  before.reverse.findSome? fun i =>
    match i with
    | .setmemory payload => some payload
    | _ => none

/-- The last SETINSTRUCTIONS payload before a point (R463). -/
def lastInstructions (before : List Instr) : Option (List Byte) :=
  before.reverse.findSome? fun i =>
    match i with
    | .setinstructions payload => some payload
    | _ => none

/-- The packets since the last PUSHSNAPSHOT, last first. -/
def sinceCommit (before : List Instr) : List Instr := before.reverse.takeWhile fun i => decide (i ≠ .pushsnapshot)

/-- The last LOADOP since the last PUSHSNAPSHOT (R463). -/
def lastLoad (before : List Instr) : Option Pending :=
  (sinceCommit before).findSome? fun i =>
    match i with
    | .loadop addr size => some ⟨addr, size⟩
    | _ => none

/-- The last STOREOP since the last PUSHSNAPSHOT (R463). -/
def lastStore (before : List Instr) : Option Pending :=
  (sinceCommit before).findSome? fun i =>
    match i with
    | .storeop addr size => some ⟨addr, size⟩
    | _ => none

/-- The image a component holds: its payload's, and no byte where no packet has set it (log 7). -/
def imageOf : Option (List Byte) → Image
  | some payload => Image.ofBytes payload
  | none => []

/-- The snapshot committed after the packets `before` (R463). -/
def snapshotAfter (before : List Instr) : Snapshot where
  regs := imageOf (lastRegisters before)
  regsValid := (lastRegisters before).isSome
  dmem := imageOf (lastMemory before)
  dmemValid := (lastMemory before).isSome
  imem := imageOf (lastInstructions before)
  imemValid := (lastInstructions before).isSome
  pendingLoad := lastLoad before
  pendingStore := lastStore before

/-- The snapshots a sequence of packets commits, in order: one for each PUSHSNAPSHOT (R463, R469). -/
def snapshotsOf (packets : List Instr) : List Snapshot :=
  (List.range packets.length).filterMap fun j =>
    if packets[j]? = some .pushsnapshot then some (snapshotAfter (packets.take j)) else none

/-- EXH after the commits of a list of snapshots, in order, each with its index (R490, R491). -/
def exhOf (p : Params) (snapshots : List Snapshot) : Exh :=
  snapshots.zipIdx.foldl (fun e xi => (e.onCommit p xi.1 xi.2).getD e) Exh.reset

/-! ### Accounting (R501 to R503) -/

/-- The pcs of the snapshots EXH accepted, in order: those before the first missing or out-of-range pc (R498 to R501). -/
def acceptedPcs (p : Params) : List Snapshot → List Word
  | [] => []
  | x :: rest =>
    match x.pc p with
    | some pc => if pc.toNat < progBytes then pc :: acceptedPcs p rest else []
    | none => []

/-- How many adjacent pairs of a list pass a test. -/
def countAdjacent (test : Word → Word → Bool) : List Word → Nat
  | p :: q :: rest => (if test p q then 1 else 0) + countAdjacent test (q :: rest)
  | _ => 0

/-- `arr(a)` (R501): arrivals at record `a` by fall-through. -/
def arrivals (a : Nat) (pcs : List Word) : Nat :=
  countAdjacent (fun p q => decide (recordIndex q = a) && decide (p.toNat + pairBytes = q.toNat)) pcs

/-- `dep(a)` (R501): departures from record `a` by fall-through. -/
def departures (a : Nat) (pcs : List Word) : Nat :=
  countAdjacent (fun p q => decide (recordIndex p = a) && decide (p.toNat + pairBytes = q.toNat)) pcs

/-- 1 when the pc given is one and lies in record `a`, else 0: the boundary terms of R501. -/
def inRecord (a : Nat) (pc : Option Word) : Nat := if pc.map recordIndex = some a then 1 else 0

/-- How many of the pcs lie in record `a` (R492). -/
def visits (a : Nat) (pcs : List Word) : Nat := (pcs.filter fun pc => decide (recordIndex pc = a)).length

/-- Edges from record `a` to the pc `q` (R495). -/
def edgesTo (a q : Nat) (pcs : List Word) : Nat :=
  countAdjacent (fun x y => decide (recordIndex x = a) && decide (y.toNat = q) && decide (isEdge x y)) pcs

/-- Edges from the pc `q` to record `a` (R495). -/
def edgesFrom (a q : Nat) (pcs : List Word) : Nat :=
  countAdjacent (fun x y => decide (recordIndex y = a) && decide (x.toNat = q) && decide (isEdge x y)) pcs

end Sys2Proof.Machine
end

