-- ==== Sys2Proof/Certificates/Slice0/Obligations.lean ====
section
/-! DEFINITION. The statements for the provers. Basis 'stated' formalises the rule it cites; every other is derived, and one
that rests on a choice of the model names the log entry. -/

open Sys2Proof Sys2Proof.Machine

/-! ### BFX -/

/-- R142: the shift and mask in arbitrary precision, the boundary width 64 included; and bit by bit. -/
def Obligations.ExtractIsShiftAndMask : Prop :=
  ∀ (v : DWord) (lo hi : Nat), lo ≤ hi → hi ≤ 63 →
    ∃ r, extract v lo hi = some r ∧ r.toNat = (v.toNat >>> lo) &&& ((1 <<< (hi - lo + 1)) - 1)
      ∧ ∀ i, r.getLsbD i = (decide (i < hi - lo + 1) && v.getLsbD (lo + i))

/-- R143: outside the precondition BFX returns no value and the call is refused. -/
def Obligations.ExtractPortRefusesBadBounds : Prop :=
  ∀ (s : State) (v : DWord) (lo hi : Nat) (calls : List Request),
    s.active = .idle → s.requests = .extract v lo hi :: calls →
    (hi < lo ∨ 63 < hi → extract v lo hi = none ∧ step s = .refused .badBounds)
      ∧ (lo ≤ hi → hi ≤ 63 → ∃ r, extract v lo hi = some r
          ∧ step s = .next { s with requests := calls, bfxOut := some r })

/-- R95, R96, R146, R148: f is read with BFX and signed fields are formed from it. -/
def Obligations.WordFieldsAreExtracts : Prop :=
  ∀ (w : Word) (target : Option Nat),
    let f := Fields.ofWord w target
    let v := w.setWidth 64
    (extract v 21 24 = some (f.dest.setWidth 64) ∧ extract v 16 20 = some (f.ft.setWidth 64)
      ∧ extract v 11 15 = some (f.fs.setWidth 64) ∧ extract v 6 10 = some (f.fd.setWidth 64)
      ∧ extract v 16 19 = some (f.it.setWidth 64) ∧ extract v 11 14 = some (f.is.setWidth 64)
      ∧ extract v 6 9 = some (f.id.setWidth 64) ∧ extract v 0 1 = some (f.bc.setWidth 64)
      ∧ extract v 21 22 = some (f.fsf.setWidth 64) ∧ extract v 23 24 = some (f.ftf.setWidth 64))
    ∧ (∃ x, extract v 6 10 = some x ∧ f.imm5 = (BitVec.ofNat 5 x.toNat).toInt)
    ∧ (∃ x, extract v 0 10 = some x ∧ f.imm11 = (BitVec.ofNat 11 x.toNat).toInt)
    ∧ (∃ x y, extract v 21 21 = some x ∧ extract v 0 10 = some y
        ∧ f.imm12 = (BitVec.ofNat 12 (x.toNat * 2 ^ 11 + y.toNat)).toInt)
    ∧ (∃ x y, extract v 21 24 = some x ∧ extract v 0 10 = some y
        ∧ f.imm15 = (BitVec.ofNat 15 (x.toNat * 2 ^ 11 + y.toNat)).toInt)
    ∧ (∃ x, extract v 0 23 = some x ∧ f.imm24 = x.toNat)

/-- R405 to R409: the tag fields by BFX, the PRIM sub-fields, the mode, the effective count and the nibbles. -/
def Obligations.GsTagFieldsAreExtracts : Prop :=
  ∀ (lo hi : DWord),
    let t := tagOfBeat lo hi
    let n := if t.nreg = 0 then 16 else t.nreg.toNat
    extract lo 0 14 = some (t.nloop.setWidth 64) ∧ extract lo 15 15 = some (if t.eop then 1 else 0)
    ∧ extract lo 46 46 = some (if t.pre then 1 else 0) ∧ extract lo 47 57 = some (t.prim.setWidth 64)
    ∧ extract lo 60 63 = some (t.nreg.setWidth 64)
    ∧ extract lo 58 59 = some (match t.mode with | .packed => 0 | .regList => 1 | .image => 2 | .disable => 3)
    ∧ (t.primState.type.toNat = t.prim.toNat % 8 ∧ t.primState.iip = t.prim.getLsbD 3 ∧ t.primState.tme = t.prim.getLsbD 4
        ∧ t.primState.fge = t.prim.getLsbD 5 ∧ t.primState.abe = t.prim.getLsbD 6 ∧ t.primState.aa1 = t.prim.getLsbD 7
        ∧ t.primState.fst = t.prim.getLsbD 8 ∧ t.primState.ctxt = t.prim.getLsbD 9 ∧ t.primState.fix = t.prim.getLsbD 10)
    ∧ t.regs.length = n
    ∧ ∀ i, i < n → ∃ x, extract hi (4 * i) (4 * i + 3) = some x ∧ t.regs[i]? = some (x.setWidth 4)

/-- R413, R414, R415: the structured readings, with the sign extension of x and y written out. -/
def Obligations.ItemReadingFollowsItsRegisterCode : Prop :=
  ∀ (reg : BitVec 4) (lo hi : DWord),
    (reg = 0xE → ∃ a, extract hi 0 7 = some (a.setWidth 64) ∧ interpret reg lo hi = .ad a lo)
    ∧ (reg = 0x4 → ∃ x y z f adc, extract lo 0 15 = some x ∧ extract lo 32 47 = some y
        ∧ extract hi 4 27 = some (z.setWidth 64) ∧ extract hi 36 43 = some (f.setWidth 64) ∧ extract hi 47 47 = some adc
        ∧ interpret reg lo hi
            = .xyzf2 (if x.toNat < 2 ^ 15 then x.toNat else (x.toNat : Int) - 2 ^ 16)
                (if y.toNat < 2 ^ 15 then y.toNat else (y.toNat : Int) - 2 ^ 16) z f (decide (adc = 1)))
    ∧ (reg ≠ 0xE → reg ≠ 0x4 → interpret reg lo hi = .raw)

/-! ### Dispatch and encodings -/

/-- R105, R106, R108, R154 to R158: level-by-level dispatch agrees with the table, row by row, and drops no bit a row reads. -/
def Obligations.DecodersFollowTheOpcodeTable : Prop :=
  (opcodeTable.Pairwise fun r r' => r.slot = r'.slot → ∀ w, ¬ (r.selects w = true ∧ r'.selects w = true))
  ∧ ∀ w : Word,
    (∀ r ∈ opcodeTable, r.selects w = true → r.slot = .upper →
      ∃ i, decodeUpper w = .ok i ∧ i.mnemonic = r.mnemonic ∧ ∀ p, encoding p i = .word .upper (w &&& r.read))
    ∧ (∀ r ∈ opcodeTable, r.selects w = true → r.slot = .lower →
      ∃ i, decodeLower w = .ok i ∧ i.mnemonic = r.mnemonic ∧ ∀ p, encoding p i = .word .lower (w &&& r.read))
    ∧ ((∀ r ∈ opcodeTable, r.slot = .upper → r.selects w = false) → decodeUpper w = .error .badInstruction)
    ∧ ((∀ r ∈ opcodeTable, r.slot = .lower → r.selects w = false) → decodeLower w = .error .badInstruction)

/-- R106, R161, read of the row, its operands and its text (log 10). -/
def Obligations.IgnoredBitsChangeNothing : Prop :=
  ∀ r ∈ opcodeTable, ∀ w w' : Word, r.selects w = true → w' &&& r.read = w &&& r.read →
    r.selects w' = true ∧ (r.slot = .upper → decodeUpper w' = decodeUpper w)
      ∧ (r.slot = .lower → decodeLower w' = decodeLower w) ∧ ∀ a, r.text w' a = r.text w a

/-- 30 R91 to R96, R118: the round trip; no bit of an encoding is dropped. -/
def Obligations.EncodedInstructionsDecodeBack : Prop :=
  ∀ (p : Params) (i : Instr) (rest : List Byte), p.ok → i.wf p = true →
    decode p (i.slot p) (encode p i ++ rest) = .ok (i, rest)

/-- R118, R452, R461: the other direction of the round trip, for packets. -/
def Obligations.PacketsEncodeBack : Prop :=
  ∀ (p : Params) (bytes rest : List Byte) (i : Instr), p.ok → decodePacket p bytes = .ok (i, rest) →
    i.slot p = .packet ∧ i.wf p = true ∧ encode p i ++ rest = bytes

/-- Sanity: words of the spec's own examples, written bit by bit. -/
def Obligations.SampleWordsDecode : Prop :=
  decodeUpper 0x01E208C0 = .ok (.addx 0xF 0x3 0x1 0x2)
    ∧ decodeUpper 0x01E2083C = .ok (.addax 0xF 0x1 0x2)
    ∧ decodeLower 0x01C20805 = .ok (.lq 0xE 0x2 0x5 0x1)
    ∧ decodeLower 0x10420A34 = .ok (.iaddiu 0x2 0x1 0x1234)
    ∧ decodeLower 0x400007FF = .ok (.b 0x7FF)
    ∧ decodeLower 0x81C20B3C = .ok (.move 0xE 0x2 0x1)
    ∧ decodeUpper 0x00000030 = .error .badInstruction
    ∧ decodeLower 0x04000000 = .error .badInstruction
    ∧ decodePacket Params.suggested [0x4C, 0x10, 0x32, 0, 0, 0x08, 0, 0, 0, 0x50] = .ok (.loadop 0x3210 0x8, [0x50])

/-! ### Formatting (R160 to R167) -/

/-- R152, R159, R160, R167 for all 95 upper rows: the meanings, the dispatch and the table-driven formatter agree. -/
def Obligations.UpperCallReturnsTheSelectedRow : Prop :=
  (∀ r ∈ opcodeTable, r.slot = .upper → ∀ (w a : Word) (s : State), r.selects w = true →
      decodeUpperCall w a s = .next { s with idec := { upperInput w a with
        upperRes := some (.instr r.mnemonic (Fields.ofUpper w) (r.text w a)) } })
    ∧ (∀ (w a : Word) (s : State), (∀ r ∈ opcodeTable, r.slot = .upper → r.selects w = false) →
        decodeUpperCall w a s = .next { s with idec := { upperInput w a with upperRes := some .bad } })
    ∧ WordResult.bad.text = "bad instruction"

/-- R151, R159, R160, R162, R167 for all 69 lower rows. -/
def Obligations.LowerCallReturnsTheSelectedRow : Prop :=
  (∀ r ∈ opcodeTable, r.slot = .lower → ∀ (w a : Word) (s : State), r.selects w = true →
      decodeLowerCall w a s = .next { s with idec := { lowerInput w a with
        lowerRes := some (.word (.instr r.mnemonic (Fields.ofLower w a) (r.text w a))) } })
    ∧ (∀ (w a : Word) (s : State), (∀ r ∈ opcodeTable, r.slot = .lower → r.selects w = false) →
        decodeLowerCall w a s = .next { s with idec := { lowerInput w a with lowerRes := some (.word .bad) } })

/-- R162, R175. -/
def Obligations.BranchTargetWraps : Prop :=
  ∀ (a : Word) (imm11 : BitVec 11),
    let t := branchTarget a imm11
    (t : Int) = (((a.toNat / 4 : Nat) : Int) + 2 + imm11.toInt * 2) % 4096 * 4 ∧ t % 4 = 0 ∧ t ≤ 0x3FFC
      ∧ (a.toNat % 8 = 0 → t % 8 = 0 ∧ (t : Int) = ((a.toNat : Int) + 8 + 8 * imm11.toInt) % 16384)

/-- R163: the full table. -/
def Obligations.MaskSuffixesAreTheSixteenOfTheTable : Prop :=
  (List.range 16).map (fun d => destSuffix (BitVec.ofNat 4 d))
      = ["", ".w", ".z", ".zw", ".y", ".yw", ".yz", ".yzw", ".x", ".xw", ".xz", ".xzw", ".xy", ".xyw", ".xyz", ".xyzw"]
    ∧ ∀ d d' : BitVec 4, destSuffix d = destSuffix d' → d = d'

/-! ### The 164 rows of the VU: each meaning completes, with its result and its frame -/

/-- The 28 rows complete with the text of their rules, and change the upper result wire alone. -/
def Obligations.UpperBroadcastRowsFormat : Prop :=
  ∀ (dest : BitVec 4) (fd fs ft : BitVec 5) (s : State),
    exec (.addx dest fd fs ft) s = .next (s.shownUpper "ADDx"
        ("ADDx" ++ destSuffix dest ++ (" " ++ joinComma ["vf" ++ dec fd.toNat, "vf" ++ dec fs.toNat, "vf" ++ dec ft.toNat ++ "x"])))
    ∧ exec (.addy dest fd fs ft) s = .next (s.shownUpper "ADDy"
        ("ADDy" ++ destSuffix dest ++ (" " ++ joinComma ["vf" ++ dec fd.toNat, "vf" ++ dec fs.toNat, "vf" ++ dec ft.toNat ++ "y"])))
    ∧ exec (.addz dest fd fs ft) s = .next (s.shownUpper "ADDz"
        ("ADDz" ++ destSuffix dest ++ (" " ++ joinComma ["vf" ++ dec fd.toNat, "vf" ++ dec fs.toNat, "vf" ++ dec ft.toNat ++ "z"])))
    ∧ exec (.addw dest fd fs ft) s = .next (s.shownUpper "ADDw"
        ("ADDw" ++ destSuffix dest ++ (" " ++ joinComma ["vf" ++ dec fd.toNat, "vf" ++ dec fs.toNat, "vf" ++ dec ft.toNat ++ "w"])))
    ∧ exec (.subx dest fd fs ft) s = .next (s.shownUpper "SUBx"
        ("SUBx" ++ destSuffix dest ++ (" " ++ joinComma ["vf" ++ dec fd.toNat, "vf" ++ dec fs.toNat, "vf" ++ dec ft.toNat ++ "x"])))
    ∧ exec (.suby dest fd fs ft) s = .next (s.shownUpper "SUBy"
        ("SUBy" ++ destSuffix dest ++ (" " ++ joinComma ["vf" ++ dec fd.toNat, "vf" ++ dec fs.toNat, "vf" ++ dec ft.toNat ++ "y"])))
    ∧ exec (.subz dest fd fs ft) s = .next (s.shownUpper "SUBz"
        ("SUBz" ++ destSuffix dest ++ (" " ++ joinComma ["vf" ++ dec fd.toNat, "vf" ++ dec fs.toNat, "vf" ++ dec ft.toNat ++ "z"])))
    ∧ exec (.subw dest fd fs ft) s = .next (s.shownUpper "SUBw"
        ("SUBw" ++ destSuffix dest ++ (" " ++ joinComma ["vf" ++ dec fd.toNat, "vf" ++ dec fs.toNat, "vf" ++ dec ft.toNat ++ "w"])))
    ∧ exec (.maddx dest fd fs ft) s = .next (s.shownUpper "MADDx"
        ("MADDx" ++ destSuffix dest ++ (" " ++ joinComma ["vf" ++ dec fd.toNat, "vf" ++ dec fs.toNat, "vf" ++ dec ft.toNat ++ "x"])))
    ∧ exec (.maddy dest fd fs ft) s = .next (s.shownUpper "MADDy"
        ("MADDy" ++ destSuffix dest ++ (" " ++ joinComma ["vf" ++ dec fd.toNat, "vf" ++ dec fs.toNat, "vf" ++ dec ft.toNat ++ "y"])))
    ∧ exec (.maddz dest fd fs ft) s = .next (s.shownUpper "MADDz"
        ("MADDz" ++ destSuffix dest ++ (" " ++ joinComma ["vf" ++ dec fd.toNat, "vf" ++ dec fs.toNat, "vf" ++ dec ft.toNat ++ "z"])))
    ∧ exec (.maddw dest fd fs ft) s = .next (s.shownUpper "MADDw"
        ("MADDw" ++ destSuffix dest ++ (" " ++ joinComma ["vf" ++ dec fd.toNat, "vf" ++ dec fs.toNat, "vf" ++ dec ft.toNat ++ "w"])))
    ∧ exec (.msubx dest fd fs ft) s = .next (s.shownUpper "MSUBx"
        ("MSUBx" ++ destSuffix dest ++ (" " ++ joinComma ["vf" ++ dec fd.toNat, "vf" ++ dec fs.toNat, "vf" ++ dec ft.toNat ++ "x"])))
    ∧ exec (.msuby dest fd fs ft) s = .next (s.shownUpper "MSUBy"
        ("MSUBy" ++ destSuffix dest ++ (" " ++ joinComma ["vf" ++ dec fd.toNat, "vf" ++ dec fs.toNat, "vf" ++ dec ft.toNat ++ "y"])))
    ∧ exec (.msubz dest fd fs ft) s = .next (s.shownUpper "MSUBz"
        ("MSUBz" ++ destSuffix dest ++ (" " ++ joinComma ["vf" ++ dec fd.toNat, "vf" ++ dec fs.toNat, "vf" ++ dec ft.toNat ++ "z"])))
    ∧ exec (.msubw dest fd fs ft) s = .next (s.shownUpper "MSUBw"
        ("MSUBw" ++ destSuffix dest ++ (" " ++ joinComma ["vf" ++ dec fd.toNat, "vf" ++ dec fs.toNat, "vf" ++ dec ft.toNat ++ "w"])))
    ∧ exec (.maxx dest fd fs ft) s = .next (s.shownUpper "MAXx"
        ("MAXx" ++ destSuffix dest ++ (" " ++ joinComma ["vf" ++ dec fd.toNat, "vf" ++ dec fs.toNat, "vf" ++ dec ft.toNat ++ "x"])))
    ∧ exec (.maxy dest fd fs ft) s = .next (s.shownUpper "MAXy"
        ("MAXy" ++ destSuffix dest ++ (" " ++ joinComma ["vf" ++ dec fd.toNat, "vf" ++ dec fs.toNat, "vf" ++ dec ft.toNat ++ "y"])))
    ∧ exec (.maxz dest fd fs ft) s = .next (s.shownUpper "MAXz"
        ("MAXz" ++ destSuffix dest ++ (" " ++ joinComma ["vf" ++ dec fd.toNat, "vf" ++ dec fs.toNat, "vf" ++ dec ft.toNat ++ "z"])))
    ∧ exec (.maxw dest fd fs ft) s = .next (s.shownUpper "MAXw"
        ("MAXw" ++ destSuffix dest ++ (" " ++ joinComma ["vf" ++ dec fd.toNat, "vf" ++ dec fs.toNat, "vf" ++ dec ft.toNat ++ "w"])))
    ∧ exec (.minix dest fd fs ft) s = .next (s.shownUpper "MINIx"
        ("MINIx" ++ destSuffix dest ++ (" " ++ joinComma ["vf" ++ dec fd.toNat, "vf" ++ dec fs.toNat, "vf" ++ dec ft.toNat ++ "x"])))
    ∧ exec (.miniy dest fd fs ft) s = .next (s.shownUpper "MINIy"
        ("MINIy" ++ destSuffix dest ++ (" " ++ joinComma ["vf" ++ dec fd.toNat, "vf" ++ dec fs.toNat, "vf" ++ dec ft.toNat ++ "y"])))
    ∧ exec (.miniz dest fd fs ft) s = .next (s.shownUpper "MINIz"
        ("MINIz" ++ destSuffix dest ++ (" " ++ joinComma ["vf" ++ dec fd.toNat, "vf" ++ dec fs.toNat, "vf" ++ dec ft.toNat ++ "z"])))
    ∧ exec (.miniw dest fd fs ft) s = .next (s.shownUpper "MINIw"
        ("MINIw" ++ destSuffix dest ++ (" " ++ joinComma ["vf" ++ dec fd.toNat, "vf" ++ dec fs.toNat, "vf" ++ dec ft.toNat ++ "w"])))
    ∧ exec (.mulx dest fd fs ft) s = .next (s.shownUpper "MULx"
        ("MULx" ++ destSuffix dest ++ (" " ++ joinComma ["vf" ++ dec fd.toNat, "vf" ++ dec fs.toNat, "vf" ++ dec ft.toNat ++ "x"])))
    ∧ exec (.muly dest fd fs ft) s = .next (s.shownUpper "MULy"
        ("MULy" ++ destSuffix dest ++ (" " ++ joinComma ["vf" ++ dec fd.toNat, "vf" ++ dec fs.toNat, "vf" ++ dec ft.toNat ++ "y"])))
    ∧ exec (.mulz dest fd fs ft) s = .next (s.shownUpper "MULz"
        ("MULz" ++ destSuffix dest ++ (" " ++ joinComma ["vf" ++ dec fd.toNat, "vf" ++ dec fs.toNat, "vf" ++ dec ft.toNat ++ "z"])))
    ∧ exec (.mulw dest fd fs ft) s = .next (s.shownUpper "MULw"
        ("MULw" ++ destSuffix dest ++ (" " ++ joinComma ["vf" ++ dec fd.toNat, "vf" ++ dec fs.toNat, "vf" ++ dec ft.toNat ++ "w"])))

/-- The 20 rows complete with the text of their rules, and change the upper result wire alone. -/
def Obligations.UpperQIAndPlainRowsFormat : Prop :=
  ∀ (dest : BitVec 4) (fd fs ft : BitVec 5) (s : State),
    exec (.mulq dest fd fs) s = .next (s.shownUpper "MULq"
        ("MULq" ++ destSuffix dest ++ (" " ++ joinComma ["vf" ++ dec fd.toNat, "vf" ++ dec fs.toNat, "Q"])))
    ∧ exec (.maxi dest fd fs) s = .next (s.shownUpper "MAXi"
        ("MAXi" ++ destSuffix dest ++ (" " ++ joinComma ["vf" ++ dec fd.toNat, "vf" ++ dec fs.toNat, "I"])))
    ∧ exec (.muli dest fd fs) s = .next (s.shownUpper "MULi"
        ("MULi" ++ destSuffix dest ++ (" " ++ joinComma ["vf" ++ dec fd.toNat, "vf" ++ dec fs.toNat, "I"])))
    ∧ exec (.minii dest fd fs) s = .next (s.shownUpper "MINIi"
        ("MINIi" ++ destSuffix dest ++ (" " ++ joinComma ["vf" ++ dec fd.toNat, "vf" ++ dec fs.toNat, "I"])))
    ∧ exec (.addq dest fd fs) s = .next (s.shownUpper "ADDq"
        ("ADDq" ++ destSuffix dest ++ (" " ++ joinComma ["vf" ++ dec fd.toNat, "vf" ++ dec fs.toNat, "Q"])))
    ∧ exec (.maddq dest fd fs) s = .next (s.shownUpper "MADDq"
        ("MADDq" ++ destSuffix dest ++ (" " ++ joinComma ["vf" ++ dec fd.toNat, "vf" ++ dec fs.toNat, "Q"])))
    ∧ exec (.addi dest fd fs) s = .next (s.shownUpper "ADDi"
        ("ADDi" ++ destSuffix dest ++ (" " ++ joinComma ["vf" ++ dec fd.toNat, "vf" ++ dec fs.toNat, "I"])))
    ∧ exec (.maddi dest fd fs) s = .next (s.shownUpper "MADDi"
        ("MADDi" ++ destSuffix dest ++ (" " ++ joinComma ["vf" ++ dec fd.toNat, "vf" ++ dec fs.toNat, "I"])))
    ∧ exec (.subq dest fd fs) s = .next (s.shownUpper "SUBq"
        ("SUBq" ++ destSuffix dest ++ (" " ++ joinComma ["vf" ++ dec fd.toNat, "vf" ++ dec fs.toNat, "Q"])))
    ∧ exec (.msubq dest fd fs) s = .next (s.shownUpper "MSUBq"
        ("MSUBq" ++ destSuffix dest ++ (" " ++ joinComma ["vf" ++ dec fd.toNat, "vf" ++ dec fs.toNat, "Q"])))
    ∧ exec (.subi dest fd fs) s = .next (s.shownUpper "SUBi"
        ("SUBi" ++ destSuffix dest ++ (" " ++ joinComma ["vf" ++ dec fd.toNat, "vf" ++ dec fs.toNat, "I"])))
    ∧ exec (.msubi dest fd fs) s = .next (s.shownUpper "MSUBi"
        ("MSUBi" ++ destSuffix dest ++ (" " ++ joinComma ["vf" ++ dec fd.toNat, "vf" ++ dec fs.toNat, "I"])))
    ∧ exec (.add dest fd fs ft) s = .next (s.shownUpper "ADD"
        ("ADD" ++ destSuffix dest ++ (" " ++ joinComma ["vf" ++ dec fd.toNat, "vf" ++ dec fs.toNat, "vf" ++ dec ft.toNat])))
    ∧ exec (.madd dest fd fs ft) s = .next (s.shownUpper "MADD"
        ("MADD" ++ destSuffix dest ++ (" " ++ joinComma ["vf" ++ dec fd.toNat, "vf" ++ dec fs.toNat, "vf" ++ dec ft.toNat])))
    ∧ exec (.mul dest fd fs ft) s = .next (s.shownUpper "MUL"
        ("MUL" ++ destSuffix dest ++ (" " ++ joinComma ["vf" ++ dec fd.toNat, "vf" ++ dec fs.toNat, "vf" ++ dec ft.toNat])))
    ∧ exec (.max dest fd fs ft) s = .next (s.shownUpper "MAX"
        ("MAX" ++ destSuffix dest ++ (" " ++ joinComma ["vf" ++ dec fd.toNat, "vf" ++ dec fs.toNat, "vf" ++ dec ft.toNat])))
    ∧ exec (.sub dest fd fs ft) s = .next (s.shownUpper "SUB"
        ("SUB" ++ destSuffix dest ++ (" " ++ joinComma ["vf" ++ dec fd.toNat, "vf" ++ dec fs.toNat, "vf" ++ dec ft.toNat])))
    ∧ exec (.msub dest fd fs ft) s = .next (s.shownUpper "MSUB"
        ("MSUB" ++ destSuffix dest ++ (" " ++ joinComma ["vf" ++ dec fd.toNat, "vf" ++ dec fs.toNat, "vf" ++ dec ft.toNat])))
    ∧ exec (.opmsub dest fd fs ft) s = .next (s.shownUpper "OPMSUB"
        ("OPMSUB" ++ destSuffix dest ++ (" " ++ joinComma ["vf" ++ dec fd.toNat, "vf" ++ dec fs.toNat, "vf" ++ dec ft.toNat])))
    ∧ exec (.mini dest fd fs ft) s = .next (s.shownUpper "MINI"
        ("MINI" ++ destSuffix dest ++ (" " ++ joinComma ["vf" ++ dec fd.toNat, "vf" ++ dec fs.toNat, "vf" ++ dec ft.toNat])))

/-- The 20 rows complete with the text of their rules, and change the upper result wire alone. -/
def Obligations.AccBroadcastRowsFormat : Prop :=
  ∀ (dest : BitVec 4) (fs ft : BitVec 5) (s : State),
    exec (.addax dest fs ft) s = .next (s.shownUpper "ADDAx"
        ("ADDAx" ++ destSuffix dest ++ (" " ++ joinComma ["ACC", "vf" ++ dec fs.toNat, "vf" ++ dec ft.toNat ++ "x"])))
    ∧ exec (.subax dest fs ft) s = .next (s.shownUpper "SUBAx"
        ("SUBAx" ++ destSuffix dest ++ (" " ++ joinComma ["ACC", "vf" ++ dec fs.toNat, "vf" ++ dec ft.toNat ++ "x"])))
    ∧ exec (.maddax dest fs ft) s = .next (s.shownUpper "MADDAx"
        ("MADDAx" ++ destSuffix dest ++ (" " ++ joinComma ["ACC", "vf" ++ dec fs.toNat, "vf" ++ dec ft.toNat ++ "x"])))
    ∧ exec (.msubax dest fs ft) s = .next (s.shownUpper "MSUBAx"
        ("MSUBAx" ++ destSuffix dest ++ (" " ++ joinComma ["ACC", "vf" ++ dec fs.toNat, "vf" ++ dec ft.toNat ++ "x"])))
    ∧ exec (.mulax dest fs ft) s = .next (s.shownUpper "MULAx"
        ("MULAx" ++ destSuffix dest ++ (" " ++ joinComma ["ACC", "vf" ++ dec fs.toNat, "vf" ++ dec ft.toNat ++ "x"])))
    ∧ exec (.adday dest fs ft) s = .next (s.shownUpper "ADDAy"
        ("ADDAy" ++ destSuffix dest ++ (" " ++ joinComma ["ACC", "vf" ++ dec fs.toNat, "vf" ++ dec ft.toNat ++ "y"])))
    ∧ exec (.subay dest fs ft) s = .next (s.shownUpper "SUBAy"
        ("SUBAy" ++ destSuffix dest ++ (" " ++ joinComma ["ACC", "vf" ++ dec fs.toNat, "vf" ++ dec ft.toNat ++ "y"])))
    ∧ exec (.madday dest fs ft) s = .next (s.shownUpper "MADDAy"
        ("MADDAy" ++ destSuffix dest ++ (" " ++ joinComma ["ACC", "vf" ++ dec fs.toNat, "vf" ++ dec ft.toNat ++ "y"])))
    ∧ exec (.msubay dest fs ft) s = .next (s.shownUpper "MSUBAy"
        ("MSUBAy" ++ destSuffix dest ++ (" " ++ joinComma ["ACC", "vf" ++ dec fs.toNat, "vf" ++ dec ft.toNat ++ "y"])))
    ∧ exec (.mulay dest fs ft) s = .next (s.shownUpper "MULAy"
        ("MULAy" ++ destSuffix dest ++ (" " ++ joinComma ["ACC", "vf" ++ dec fs.toNat, "vf" ++ dec ft.toNat ++ "y"])))
    ∧ exec (.addaz dest fs ft) s = .next (s.shownUpper "ADDAz"
        ("ADDAz" ++ destSuffix dest ++ (" " ++ joinComma ["ACC", "vf" ++ dec fs.toNat, "vf" ++ dec ft.toNat ++ "z"])))
    ∧ exec (.subaz dest fs ft) s = .next (s.shownUpper "SUBAz"
        ("SUBAz" ++ destSuffix dest ++ (" " ++ joinComma ["ACC", "vf" ++ dec fs.toNat, "vf" ++ dec ft.toNat ++ "z"])))
    ∧ exec (.maddaz dest fs ft) s = .next (s.shownUpper "MADDAz"
        ("MADDAz" ++ destSuffix dest ++ (" " ++ joinComma ["ACC", "vf" ++ dec fs.toNat, "vf" ++ dec ft.toNat ++ "z"])))
    ∧ exec (.msubaz dest fs ft) s = .next (s.shownUpper "MSUBAz"
        ("MSUBAz" ++ destSuffix dest ++ (" " ++ joinComma ["ACC", "vf" ++ dec fs.toNat, "vf" ++ dec ft.toNat ++ "z"])))
    ∧ exec (.mulaz dest fs ft) s = .next (s.shownUpper "MULAz"
        ("MULAz" ++ destSuffix dest ++ (" " ++ joinComma ["ACC", "vf" ++ dec fs.toNat, "vf" ++ dec ft.toNat ++ "z"])))
    ∧ exec (.addaw dest fs ft) s = .next (s.shownUpper "ADDAw"
        ("ADDAw" ++ destSuffix dest ++ (" " ++ joinComma ["ACC", "vf" ++ dec fs.toNat, "vf" ++ dec ft.toNat ++ "w"])))
    ∧ exec (.subaw dest fs ft) s = .next (s.shownUpper "SUBAw"
        ("SUBAw" ++ destSuffix dest ++ (" " ++ joinComma ["ACC", "vf" ++ dec fs.toNat, "vf" ++ dec ft.toNat ++ "w"])))
    ∧ exec (.maddaw dest fs ft) s = .next (s.shownUpper "MADDAw"
        ("MADDAw" ++ destSuffix dest ++ (" " ++ joinComma ["ACC", "vf" ++ dec fs.toNat, "vf" ++ dec ft.toNat ++ "w"])))
    ∧ exec (.msubaw dest fs ft) s = .next (s.shownUpper "MSUBAw"
        ("MSUBAw" ++ destSuffix dest ++ (" " ++ joinComma ["ACC", "vf" ++ dec fs.toNat, "vf" ++ dec ft.toNat ++ "w"])))
    ∧ exec (.mulaw dest fs ft) s = .next (s.shownUpper "MULAw"
        ("MULAw" ++ destSuffix dest ++ (" " ++ joinComma ["ACC", "vf" ++ dec fs.toNat, "vf" ++ dec ft.toNat ++ "w"])))

/-- The 16 rows complete with the text of their rules, and change the upper result wire alone. -/
def Obligations.AccQIAndPlainRowsFormat : Prop :=
  ∀ (dest : BitVec 4) (fs ft : BitVec 5) (s : State),
    exec (.mulaq dest fs) s = .next (s.shownUpper "MULAq"
        ("MULAq" ++ destSuffix dest ++ (" " ++ joinComma ["ACC", "vf" ++ dec fs.toNat, "Q"])))
    ∧ exec (.addaq dest fs) s = .next (s.shownUpper "ADDAq"
        ("ADDAq" ++ destSuffix dest ++ (" " ++ joinComma ["ACC", "vf" ++ dec fs.toNat, "Q"])))
    ∧ exec (.subaq dest fs) s = .next (s.shownUpper "SUBAq"
        ("SUBAq" ++ destSuffix dest ++ (" " ++ joinComma ["ACC", "vf" ++ dec fs.toNat, "Q"])))
    ∧ exec (.adda dest fs ft) s = .next (s.shownUpper "ADDA"
        ("ADDA" ++ destSuffix dest ++ (" " ++ joinComma ["ACC", "vf" ++ dec fs.toNat, "vf" ++ dec ft.toNat])))
    ∧ exec (.suba dest fs ft) s = .next (s.shownUpper "SUBA"
        ("SUBA" ++ destSuffix dest ++ (" " ++ joinComma ["ACC", "vf" ++ dec fs.toNat, "vf" ++ dec ft.toNat])))
    ∧ exec (.maddaq dest fs) s = .next (s.shownUpper "MADDAq"
        ("MADDAq" ++ destSuffix dest ++ (" " ++ joinComma ["ACC", "vf" ++ dec fs.toNat, "Q"])))
    ∧ exec (.msubaq dest fs) s = .next (s.shownUpper "MSUBAq"
        ("MSUBAq" ++ destSuffix dest ++ (" " ++ joinComma ["ACC", "vf" ++ dec fs.toNat, "Q"])))
    ∧ exec (.madda dest fs ft) s = .next (s.shownUpper "MADDA"
        ("MADDA" ++ destSuffix dest ++ (" " ++ joinComma ["ACC", "vf" ++ dec fs.toNat, "vf" ++ dec ft.toNat])))
    ∧ exec (.msuba dest fs ft) s = .next (s.shownUpper "MSUBA"
        ("MSUBA" ++ destSuffix dest ++ (" " ++ joinComma ["ACC", "vf" ++ dec fs.toNat, "vf" ++ dec ft.toNat])))
    ∧ exec (.mulai dest fs) s = .next (s.shownUpper "MULAi"
        ("MULAi" ++ destSuffix dest ++ (" " ++ joinComma ["ACC", "vf" ++ dec fs.toNat, "I"])))
    ∧ exec (.addai dest fs) s = .next (s.shownUpper "ADDAi"
        ("ADDAi" ++ destSuffix dest ++ (" " ++ joinComma ["ACC", "vf" ++ dec fs.toNat, "I"])))
    ∧ exec (.subai dest fs) s = .next (s.shownUpper "SUBAi"
        ("SUBAi" ++ destSuffix dest ++ (" " ++ joinComma ["ACC", "vf" ++ dec fs.toNat, "I"])))
    ∧ exec (.mula dest fs ft) s = .next (s.shownUpper "MULA"
        ("MULA" ++ destSuffix dest ++ (" " ++ joinComma ["ACC", "vf" ++ dec fs.toNat, "vf" ++ dec ft.toNat])))
    ∧ exec (.opmula dest fs ft) s = .next (s.shownUpper "OPMULA"
        ("OPMULA" ++ destSuffix dest ++ (" " ++ joinComma ["ACC", "vf" ++ dec fs.toNat, "vf" ++ dec ft.toNat])))
    ∧ exec (.maddai dest fs) s = .next (s.shownUpper "MADDAi"
        ("MADDAi" ++ destSuffix dest ++ (" " ++ joinComma ["ACC", "vf" ++ dec fs.toNat, "I"])))
    ∧ exec (.msubai dest fs) s = .next (s.shownUpper "MSUBAi"
        ("MSUBAi" ++ destSuffix dest ++ (" " ++ joinComma ["ACC", "vf" ++ dec fs.toNat, "I"])))

/-- The 11 rows complete with the text of their rules, and change the upper result wire alone. -/
def Obligations.ConversionClipAndNopRowsFormat : Prop :=
  ∀ (dest : BitVec 4) (fs ft : BitVec 5) (s : State),
    exec (.itof0 dest ft fs) s = .next (s.shownUpper "ITOF0"
        ("ITOF0" ++ destSuffix dest ++ (" " ++ joinComma ["vf" ++ dec ft.toNat, "vf" ++ dec fs.toNat])))
    ∧ exec (.ftoi0 dest ft fs) s = .next (s.shownUpper "FTOI0"
        ("FTOI0" ++ destSuffix dest ++ (" " ++ joinComma ["vf" ++ dec ft.toNat, "vf" ++ dec fs.toNat])))
    ∧ exec (.itof4 dest ft fs) s = .next (s.shownUpper "ITOF4"
        ("ITOF4" ++ destSuffix dest ++ (" " ++ joinComma ["vf" ++ dec ft.toNat, "vf" ++ dec fs.toNat])))
    ∧ exec (.ftoi4 dest ft fs) s = .next (s.shownUpper "FTOI4"
        ("FTOI4" ++ destSuffix dest ++ (" " ++ joinComma ["vf" ++ dec ft.toNat, "vf" ++ dec fs.toNat])))
    ∧ exec (.abs dest ft fs) s = .next (s.shownUpper "ABS"
        ("ABS" ++ destSuffix dest ++ (" " ++ joinComma ["vf" ++ dec ft.toNat, "vf" ++ dec fs.toNat])))
    ∧ exec (.itof12 dest ft fs) s = .next (s.shownUpper "ITOF12"
        ("ITOF12" ++ destSuffix dest ++ (" " ++ joinComma ["vf" ++ dec ft.toNat, "vf" ++ dec fs.toNat])))
    ∧ exec (.ftoi12 dest ft fs) s = .next (s.shownUpper "FTOI12"
        ("FTOI12" ++ destSuffix dest ++ (" " ++ joinComma ["vf" ++ dec ft.toNat, "vf" ++ dec fs.toNat])))
    ∧ exec (.itof15 dest ft fs) s = .next (s.shownUpper "ITOF15"
        ("ITOF15" ++ destSuffix dest ++ (" " ++ joinComma ["vf" ++ dec ft.toNat, "vf" ++ dec fs.toNat])))
    ∧ exec (.ftoi15 dest ft fs) s = .next (s.shownUpper "FTOI15"
        ("FTOI15" ++ destSuffix dest ++ (" " ++ joinComma ["vf" ++ dec ft.toNat, "vf" ++ dec fs.toNat])))
    ∧ exec (.clipw dest fs ft) s = .next (s.shownUpper "CLIPw"
        ("CLIPw" ++ destSuffix dest ++ (" " ++ joinComma ["vf" ++ dec fs.toNat, "vf" ++ dec ft.toNat ++ "w"])))
    ∧ exec .nop s = .next (s.shownUpper "NOP"
        ("NOP"))

/-- The 10 rows complete with the text of their rules, and change the lower result wire alone. -/
def Obligations.MemoryAndImmediateRowsFormat : Prop :=
  ∀ (dest is it : BitVec 4) (fs ft : BitVec 5) (imm11 : BitVec 11) (imm15 : BitVec 15) (imm24 : BitVec 24) (s : State),
    exec (.lq dest ft imm11 is) s = .next (s.shownLower "LQ"
        ("LQ" ++ destSuffix dest ++ (" " ++ joinComma ["vf" ++ dec ft.toNat, sdec imm11.toInt ++ "(vi" ++ dec is.toNat ++ ")"])))
    ∧ exec (.sq dest fs imm11 it) s = .next (s.shownLower "SQ"
        ("SQ" ++ destSuffix dest ++ (" " ++ joinComma ["vf" ++ dec fs.toNat, sdec imm11.toInt ++ "(vi" ++ dec it.toNat ++ ")"])))
    ∧ exec (.ilw dest it imm11 is) s = .next (s.shownLower "ILW"
        ("ILW" ++ destSuffix dest ++ (" " ++ joinComma ["vi" ++ dec it.toNat, sdec imm11.toInt ++ "(vi" ++ dec is.toNat ++ ")"])))
    ∧ exec (.isw dest it imm11 is) s = .next (s.shownLower "ISW"
        ("ISW" ++ destSuffix dest ++ (" " ++ joinComma ["vi" ++ dec it.toNat, sdec imm11.toInt ++ "(vi" ++ dec is.toNat ++ ")"])))
    ∧ exec (.iaddiu it is imm15) s = .next (s.shownLower "IADDIU"
        ("IADDIU" ++ (" " ++ joinComma ["vi" ++ dec it.toNat, "vi" ++ dec is.toNat, sdec imm15.toInt])))
    ∧ exec (.isubiu it is imm15) s = .next (s.shownLower "ISUBIU"
        ("ISUBIU" ++ (" " ++ joinComma ["vi" ++ dec it.toNat, "vi" ++ dec is.toNat, sdec imm15.toInt])))
    ∧ exec (.fceq imm24) s = .next (s.shownLower "FCEQ"
        ("FCEQ" ++ (" " ++ joinComma ["vi1", dec imm24.toNat])))
    ∧ exec (.fcset imm24) s = .next (s.shownLower "FCSET"
        ("FCSET" ++ (" " ++ joinComma [dec imm24.toNat])))
    ∧ exec (.fcand imm24) s = .next (s.shownLower "FCAND"
        ("FCAND" ++ (" " ++ joinComma ["vi1", dec imm24.toNat])))
    ∧ exec (.fcor imm24) s = .next (s.shownLower "FCOR"
        ("FCOR" ++ (" " ++ joinComma ["vi1", dec imm24.toNat])))

/-- The 10 rows complete with the text of their rules, and change the lower result wire alone. -/
def Obligations.StatusAndFlagRowsFormat : Prop :=
  ∀ (is it : BitVec 4) (imm12 : BitVec 12) (s : State),
    exec (.fseq it imm12) s = .next (s.shownLower "FSEQ"
        ("FSEQ" ++ (" " ++ joinComma ["vi" ++ dec it.toNat, sdec imm12.toInt])))
    ∧ exec (.fsset imm12) s = .next (s.shownLower "FSSET"
        ("FSSET" ++ (" " ++ joinComma [sdec imm12.toInt])))
    ∧ exec (.fsand it imm12) s = .next (s.shownLower "FSAND"
        ("FSAND" ++ (" " ++ joinComma ["vi" ++ dec it.toNat, sdec imm12.toInt])))
    ∧ exec (.fsor it imm12) s = .next (s.shownLower "FSOR"
        ("FSOR" ++ (" " ++ joinComma ["vi" ++ dec it.toNat, sdec imm12.toInt])))
    ∧ exec (.fmeq it is) s = .next (s.shownLower "FMEQ"
        ("FMEQ" ++ (" " ++ joinComma ["vi" ++ dec it.toNat, "vi" ++ dec is.toNat])))
    ∧ exec (.fmand it is) s = .next (s.shownLower "FMAND"
        ("FMAND" ++ (" " ++ joinComma ["vi" ++ dec it.toNat, "vi" ++ dec is.toNat])))
    ∧ exec (.fmor it is) s = .next (s.shownLower "FMOR"
        ("FMOR" ++ (" " ++ joinComma ["vi" ++ dec it.toNat, "vi" ++ dec is.toNat])))
    ∧ exec (.fcget it) s = .next (s.shownLower "FCGET"
        ("FCGET" ++ (" " ++ joinComma ["vi" ++ dec it.toNat])))
    ∧ exec (.jr is) s = .next (s.shownLower "JR"
        ("JR" ++ (" " ++ joinComma ["vi" ++ dec is.toNat])))
    ∧ exec (.jalr it is) s = .next (s.shownLower "JALR"
        ("JALR" ++ (" " ++ joinComma ["vi" ++ dec it.toNat, "vi" ++ dec is.toNat])))

/-- B, BAL, IBEQ, IBNE, IBLTZ, IBGTZ, IBLEZ, IBGEZ complete with the text of their rules, and change the lower result wire alone. -/
def Obligations.BranchRowsFormat : Prop :=
  ∀ (is it : BitVec 4) (imm11 : BitVec 11) (s : State),
    exec (.b imm11) s = .next (s.shownLower "B"
        ("B" ++ (" " ++ joinComma [hex (branchTarget s.idec.lowerAddr imm11)])))
    ∧ exec (.bal it imm11) s = .next (s.shownLower "BAL"
        ("BAL" ++ (" " ++ joinComma ["vi" ++ dec it.toNat, hex (branchTarget s.idec.lowerAddr imm11)])))
    ∧ exec (.ibeq it is imm11) s = .next (s.shownLower "IBEQ"
        ("IBEQ" ++ (" " ++ joinComma ["vi" ++ dec it.toNat, "vi" ++ dec is.toNat, hex (branchTarget s.idec.lowerAddr imm11)])))
    ∧ exec (.ibne it is imm11) s = .next (s.shownLower "IBNE"
        ("IBNE" ++ (" " ++ joinComma ["vi" ++ dec it.toNat, "vi" ++ dec is.toNat, hex (branchTarget s.idec.lowerAddr imm11)])))
    ∧ exec (.ibltz is imm11) s = .next (s.shownLower "IBLTZ"
        ("IBLTZ" ++ (" " ++ joinComma ["vi" ++ dec is.toNat, hex (branchTarget s.idec.lowerAddr imm11)])))
    ∧ exec (.ibgtz is imm11) s = .next (s.shownLower "IBGTZ"
        ("IBGTZ" ++ (" " ++ joinComma ["vi" ++ dec is.toNat, hex (branchTarget s.idec.lowerAddr imm11)])))
    ∧ exec (.iblez is imm11) s = .next (s.shownLower "IBLEZ"
        ("IBLEZ" ++ (" " ++ joinComma ["vi" ++ dec is.toNat, hex (branchTarget s.idec.lowerAddr imm11)])))
    ∧ exec (.ibgez is imm11) s = .next (s.shownLower "IBGEZ"
        ("IBGEZ" ++ (" " ++ joinComma ["vi" ++ dec is.toNat, hex (branchTarget s.idec.lowerAddr imm11)])))

/-- The 13 rows complete with the text of their rules, and change the lower result wire alone. -/
def Obligations.IntegerAndMoveRowsFormat : Prop :=
  ∀ (dest id is it : BitVec 4) (fs ft imm5 : BitVec 5) (s : State),
    exec (.iadd id is it) s = .next (s.shownLower "IADD"
        ("IADD" ++ (" " ++ joinComma ["vi" ++ dec id.toNat, "vi" ++ dec is.toNat, "vi" ++ dec it.toNat])))
    ∧ exec (.isub id is it) s = .next (s.shownLower "ISUB"
        ("ISUB" ++ (" " ++ joinComma ["vi" ++ dec id.toNat, "vi" ++ dec is.toNat, "vi" ++ dec it.toNat])))
    ∧ exec (.iaddi it is imm5) s = .next (s.shownLower "IADDI"
        ("IADDI" ++ (" " ++ joinComma ["vi" ++ dec it.toNat, "vi" ++ dec is.toNat, sdec imm5.toInt])))
    ∧ exec (.iand id is it) s = .next (s.shownLower "IAND"
        ("IAND" ++ (" " ++ joinComma ["vi" ++ dec id.toNat, "vi" ++ dec is.toNat, "vi" ++ dec it.toNat])))
    ∧ exec (.ior id is it) s = .next (s.shownLower "IOR"
        ("IOR" ++ (" " ++ joinComma ["vi" ++ dec id.toNat, "vi" ++ dec is.toNat, "vi" ++ dec it.toNat])))
    ∧ exec (.move dest ft fs) s = .next (s.shownLower "MOVE"
        ("MOVE" ++ destSuffix dest ++ (" " ++ joinComma ["vf" ++ dec ft.toNat, "vf" ++ dec fs.toNat])))
    ∧ exec (.rnext dest ft) s = .next (s.shownLower "RNEXT"
        ("RNEXT" ++ destSuffix dest ++ (" " ++ joinComma ["vf" ++ dec ft.toNat, "R"])))
    ∧ exec (.mfp dest ft) s = .next (s.shownLower "MFP"
        ("MFP" ++ destSuffix dest ++ (" " ++ joinComma ["vf" ++ dec ft.toNat, "P"])))
    ∧ exec (.mr32 dest ft fs) s = .next (s.shownLower "MR32"
        ("MR32" ++ destSuffix dest ++ (" " ++ joinComma ["vf" ++ dec ft.toNat, "vf" ++ dec fs.toNat])))
    ∧ exec (.mfir dest ft is) s = .next (s.shownLower "MFIR"
        ("MFIR" ++ destSuffix dest ++ (" " ++ joinComma ["vf" ++ dec ft.toNat, "vi" ++ dec is.toNat])))
    ∧ exec (.rget dest ft) s = .next (s.shownLower "RGET"
        ("RGET" ++ destSuffix dest ++ (" " ++ joinComma ["vf" ++ dec ft.toNat, "R"])))
    ∧ exec (.ilwr dest it is) s = .next (s.shownLower "ILWR"
        ("ILWR" ++ destSuffix dest ++ (" " ++ joinComma ["vi" ++ dec it.toNat, "(vi" ++ dec is.toNat ++ ")"])))
    ∧ exec (.iswr dest it is) s = .next (s.shownLower "ISWR"
        ("ISWR" ++ destSuffix dest ++ (" " ++ joinComma ["vi" ++ dec it.toNat, "(vi" ++ dec is.toNat ++ ")"])))

/-- The 13 rows complete with the text of their rules, and change the lower result wire alone. -/
def Obligations.IncrementDivideAndUnitRowsFormat : Prop :=
  ∀ (dest is it : BitVec 4) (fs ft : BitVec 5) (fsf ftf : BitVec 2) (s : State),
    exec (.lqi dest ft is) s = .next (s.shownLower "LQI"
        ("LQI" ++ destSuffix dest ++ (" " ++ joinComma ["vf" ++ dec ft.toNat, "(vi" ++ dec is.toNat ++ "++)"])))
    ∧ exec (.div fs fsf ft ftf) s = .next (s.shownLower "DIV"
        ("DIV" ++ (" " ++ joinComma ["Q", "vf" ++ dec fs.toNat ++ comp fsf, "vf" ++ dec ft.toNat ++ comp ftf])))
    ∧ exec (.mtir it fs fsf) s = .next (s.shownLower "MTIR"
        ("MTIR" ++ (" " ++ joinComma ["vi" ++ dec it.toNat, "vf" ++ dec fs.toNat ++ comp fsf])))
    ∧ exec (.xtop it) s = .next (s.shownLower "XTOP"
        ("XTOP" ++ (" " ++ joinComma ["vi" ++ dec it.toNat])))
    ∧ exec (.xgkick is) s = .next (s.shownLower "XGKICK"
        ("XGKICK" ++ (" " ++ joinComma ["vi" ++ dec is.toNat])))
    ∧ exec (.sqi dest fs it) s = .next (s.shownLower "SQI"
        ("SQI" ++ destSuffix dest ++ (" " ++ joinComma ["vf" ++ dec fs.toNat, "(vi" ++ dec it.toNat ++ "++)"])))
    ∧ exec (.sqrt ft ftf) s = .next (s.shownLower "SQRT"
        ("SQRT" ++ (" " ++ joinComma ["Q", "vf" ++ dec ft.toNat ++ comp ftf])))
    ∧ exec (.xitop it) s = .next (s.shownLower "XITOP"
        ("XITOP" ++ (" " ++ joinComma ["vi" ++ dec it.toNat])))
    ∧ exec (.lqd dest ft is) s = .next (s.shownLower "LQD"
        ("LQD" ++ destSuffix dest ++ (" " ++ joinComma ["vf" ++ dec ft.toNat, "(--vi" ++ dec is.toNat ++ ")"])))
    ∧ exec (.rsqrt fs fsf ft ftf) s = .next (s.shownLower "RSQRT"
        ("RSQRT" ++ (" " ++ joinComma ["Q", "vf" ++ dec fs.toNat ++ comp fsf, "vf" ++ dec ft.toNat ++ comp ftf])))
    ∧ exec (.rinit fs fsf) s = .next (s.shownLower "RINIT"
        ("RINIT" ++ (" " ++ joinComma ["R", "vf" ++ dec fs.toNat ++ comp fsf])))
    ∧ exec (.sqd dest fs it) s = .next (s.shownLower "SQD"
        ("SQD" ++ destSuffix dest ++ (" " ++ joinComma ["vf" ++ dec fs.toNat, "(--vi" ++ dec it.toNat ++ ")"])))
    ∧ exec (.rxor fs fsf) s = .next (s.shownLower "RXOR"
        ("RXOR" ++ (" " ++ joinComma ["R", "vf" ++ dec fs.toNat ++ comp fsf])))

/-- The 15 rows complete with the text of their rules, and change the lower result wire alone. -/
def Obligations.EfuAndWaitRowsFormat : Prop :=
  ∀ (fs : BitVec 5) (fsf : BitVec 2) (s : State),
    exec (.esadd fs) s = .next (s.shownLower "ESADD"
        ("ESADD" ++ (" " ++ joinComma ["P", "vf" ++ dec fs.toNat])))
    ∧ exec (.eatanxy fs) s = .next (s.shownLower "EATANxy"
        ("EATANxy" ++ (" " ++ joinComma ["P", "vf" ++ dec fs.toNat])))
    ∧ exec (.esqrt fs fsf) s = .next (s.shownLower "ESQRT"
        ("ESQRT" ++ (" " ++ joinComma ["P", "vf" ++ dec fs.toNat ++ comp fsf])))
    ∧ exec (.esin fs fsf) s = .next (s.shownLower "ESIN"
        ("ESIN" ++ (" " ++ joinComma ["P", "vf" ++ dec fs.toNat ++ comp fsf])))
    ∧ exec (.ersadd fs) s = .next (s.shownLower "ERSADD"
        ("ERSADD" ++ (" " ++ joinComma ["P", "vf" ++ dec fs.toNat])))
    ∧ exec (.eatanxz fs) s = .next (s.shownLower "EATANxz"
        ("EATANxz" ++ (" " ++ joinComma ["P", "vf" ++ dec fs.toNat])))
    ∧ exec (.ersqrt fs fsf) s = .next (s.shownLower "ERSQRT"
        ("ERSQRT" ++ (" " ++ joinComma ["P", "vf" ++ dec fs.toNat ++ comp fsf])))
    ∧ exec (.eatan fs fsf) s = .next (s.shownLower "EATAN"
        ("EATAN" ++ (" " ++ joinComma ["P", "vf" ++ dec fs.toNat ++ comp fsf])))
    ∧ exec (.eleng fs) s = .next (s.shownLower "ELENG"
        ("ELENG" ++ (" " ++ joinComma ["P", "vf" ++ dec fs.toNat])))
    ∧ exec (.esum fs) s = .next (s.shownLower "ESUM"
        ("ESUM" ++ (" " ++ joinComma ["P", "vf" ++ dec fs.toNat])))
    ∧ exec (.ercpr fs fsf) s = .next (s.shownLower "ERCPR"
        ("ERCPR" ++ (" " ++ joinComma ["P", "vf" ++ dec fs.toNat ++ comp fsf])))
    ∧ exec (.eexp fs fsf) s = .next (s.shownLower "EEXP"
        ("EEXP" ++ (" " ++ joinComma ["P", "vf" ++ dec fs.toNat ++ comp fsf])))
    ∧ exec .waitq s = .next (s.shownLower "WAITQ"
        ("WAITQ"))
    ∧ exec (.erleng fs) s = .next (s.shownLower "ERLENG"
        ("ERLENG" ++ (" " ++ joinComma ["P", "vf" ++ dec fs.toNat])))
    ∧ exec .waitp s = .next (s.shownLower "WAITP"
        ("WAITP"))

/-! ### IDEC's ports -/

/-- R48, R151, R152, R168: what reaches a run; the queue of calls is the model's own (log 4). -/
def Obligations.StepRunsTheDecodedWord : Prop :=
  ∀ (s : State) (w l a : Word) (calls : List Request) (i j : Instr), s.active = .idle →
    (s.requests = .decodeUpper w a :: calls → decodeUpper w = .ok i →
      step s = exec i { s with requests := calls, idec := upperInput w a })
    ∧ (s.requests = .decodeLower w a :: calls → decodeLower w = .ok i →
      step s = exec i { s with requests := calls, idec := lowerInput w a })
    ∧ (s.requests = .decodePair l w a :: calls → decodeUpper w = .ok i → decodeLower l = .ok j → w.getLsbD 31 = false →
      ∃ t, exec i { s with requests := calls, idec := pairInput l w a } = .next t ∧ step s = exec j t)

/-- R152, R153: totality over all 2^32 words, purity (R171, R172), and no use of the address by an upper word. -/
def Obligations.WordDecodesAreTotalAndPure : Prop :=
  (∀ w : Word, ∃ r, ∀ (a : Word) (s : State) (calls : List Request),
      s.active = .idle → s.requests = .decodeUpper w a :: calls →
      step s = .next { s with requests := calls, idec := { upperInput w a with upperRes := some r } })
    ∧ ∀ w a : Word, ∃ r, ∀ (s : State) (calls : List Request),
        s.active = .idle → s.requests = .decodeLower w a :: calls →
        step s = .next { s with requests := calls, idec := { lowerInput w a with lowerRes := some (.word r) } }

/-- R168, R169 (and R99, R109): the pair wrapper. Derived: that upperAddr holds address + 4 modulo 2^32 is the model's choice
(log 16). -/
def Obligations.PairDecodeHonoursTheImmediateBit : Prop :=
  ∀ l u a : Word, ∃ ru rl,
    (∀ (s : State) (calls : List Request), s.active = .idle → s.requests = .decodePair l u a :: calls →
      step s = .next { s with requests := calls, idec := {
        lower := l, lowerAddr := a, upper := u, upperAddr := a + 4, lowerRes := some rl, upperRes := some ru,
        flags := some { i := u.getLsbD 31, e := u.getLsbD 30, m := u.getLsbD 29, d := u.getLsbD 28, t := u.getLsbD 27 } } })
    ∧ (∀ s : State, ∃ t, decodeUpperCall u (a + 4) s = .next t ∧ t.idec.upperRes = some ru)
    ∧ (u.getLsbD 31 = true → rl = .immFloat l (Config.fmtImmFloat l))
    ∧ (u.getLsbD 31 = false → ∀ s : State, ∃ t, decodeLowerCall l a s = .next t ∧ t.idec.lowerRes = some rl)

/-- R72, R173. -/
def Obligations.PairAtReadsTheCommittedImage : Prop :=
  ∀ (s : State) (ref : SnapshotRef) (x : Snapshot) (a : Word) (calls : List Request),
    s.active = .idle → s.requests = .decodePairAt ref a :: calls → s.resolve ref = .ok x →
    Image.wf progBytes x.imem = true →
    (x.imemValid = true → a.toNat % 8 = 0 → a.toNat + 8 ≤ 16384 →
      step s = step { s with requests := (Request.decodePair (le32 (Image.bytesFrom x.imem a.toNat 4))
        (le32 (Image.bytesFrom x.imem (a.toNat + 4) 4)) a) :: calls })
    ∧ (x.imemValid = false ∨ a.toNat % 8 ≠ 0 ∨ 16384 < a.toNat + 8 → step s = .refused .badFetch)

/-! ### Trace packets -/

/-- R452: apply, then cursor <- cursor + 1 + n. -/
def Obligations.TraceStepAppliesTheDecodedPacket : Prop :=
  ∀ (s : State) (i : Instr) (rest : List Byte), s.active = .trace → s.tsr.status = .running →
    decode s.params .packet (s.tsr.stream.drop s.tsr.cursor) = .ok (i, rest) →
    step s = match exec i s with
      | .next t => .next { t with tsr := { t.tsr with cursor := s.tsr.stream.length - rest.length } }
      | .fault f => .fault f
      | .refused r => .refused r

/-- R456, R457, R458, R461: the result, its bytes, and the frame. -/
def Obligations.SetPacketsReplaceOneComponent : Prop :=
  ∀ (s : State) (payload : List Byte),
    (∃ t img, exec (.setregisters payload) s = .next t
      ∧ t = { s with tsr := { s.tsr with acc := { s.tsr.acc with regs := img, regsValid := true } } }
      ∧ (∀ a, Image.byte img a = payload.getD a 0)
      ∧ (payload.length = s.params.regBlockBytes → Image.wf s.params.regBlockBytes img = true))
    ∧ (∃ t img, exec (.setmemory payload) s = .next t
      ∧ t = { s with tsr := { s.tsr with acc := { s.tsr.acc with dmem := img, dmemValid := true } } }
      ∧ (∀ a, Image.byte img a = payload.getD a 0) ∧ (payload.length = 16384 → Image.wf dataBytes img = true))
    ∧ (∃ t img, exec (.setinstructions payload) s = .next t
      ∧ t = { s with tsr := { s.tsr with acc := { s.tsr.acc with imem := img, imemValid := true } } }
      ∧ (∀ a, Image.byte img a = payload.getD a 0) ∧ (payload.length = 16384 → Image.wf progBytes img = true))

/-- R459, R460, with the order of D25 (address, then size). -/
def Obligations.PendingPacketsReplaceOneField : Prop :=
  ∀ (s : State) (addr size : Word),
    exec (.loadop addr size) s
        = .next { s with tsr := { s.tsr with acc := { s.tsr.acc with pendingLoad := some ⟨addr, size⟩ } } }
    ∧ exec (.storeop addr size) s
        = .next { s with tsr := { s.tsr with acc := { s.tsr.acc with pendingStore := some ⟨addr, size⟩ } } }
    ∧ packetOf .loadOp (leBytes 4 addr.toNat ++ leBytes 4 size.toNat) = .loadop addr size
    ∧ packetOf .storeOp (leBytes 4 addr.toNat ++ leBytes 4 size.toNat) = .storeop addr size

/-- R455, R491, R505. The premise is the parameter constraint of R6 with log 13. -/
def Obligations.PushSnapshotCommitsTheAccumulator : Prop :=
  ∀ s : State, s.params.ok → ∃ e,
    exec .pushsnapshot s = .next { s with
      tsr := { s.tsr with snapshots := s.tsr.snapshots ++ [s.tsr.acc],
                          acc := { s.tsr.acc with pendingLoad := none, pendingStore := none } },
      exh := e }
    ∧ (s.params.hasExh = true → s.exh.onCommit s.params s.tsr.acc s.tsr.snapshots.length = some e)
    ∧ (s.params.hasExh = false → e = s.exh)

/-- R31, R32, R35, R36, R38. -/
def Obligations.RegisterBlockLayout : Prop :=
  (∀ (s : State) (payload : List Byte), s.params.ok → payload.length = s.params.regBlockBytes →
    ∃ t, exec (.setregisters payload) s = .next t
      ∧ (∀ n k, n < 32 → k < 4 → t.tsr.acc.vfLane s.params n k = some (le32 ((payload.drop (16 * n + 4 * k)).take 4)))
      ∧ (∀ n, n < 32 → t.tsr.acc.viBytes s.params n
          = some ((payload.drop (512 + s.params.sregBytes * n)).take s.params.sregBytes))
      ∧ t.tsr.acc.pc s.params
          = some (le32 ((payload.drop (512 + s.params.sregBytes * s.params.pcIndex.val)).take 4)))
    ∧ ∀ (p : Params) (x : Snapshot) (n k : Nat), x.regsValid = false →
        x.vfLane p n k = none ∧ x.viBytes p n = none ∧ x.pc p = none

/-- R462 over all 170 instructions. -/
def Obligations.AccumulatorIsSticky : Prop :=
  ∀ (i : Instr) (s t : State), exec i s = .next t →
    ((∀ b, i ≠ .setregisters b) → t.tsr.acc.regs = s.tsr.acc.regs ∧ t.tsr.acc.regsValid = s.tsr.acc.regsValid)
    ∧ ((∀ b, i ≠ .setmemory b) → t.tsr.acc.dmem = s.tsr.acc.dmem ∧ t.tsr.acc.dmemValid = s.tsr.acc.dmemValid)
    ∧ ((∀ b, i ≠ .setinstructions b) → t.tsr.acc.imem = s.tsr.acc.imem ∧ t.tsr.acc.imemValid = s.tsr.acc.imemValid)
    ∧ ((∀ a z, i ≠ .loadop a z) → i ≠ .pushsnapshot → t.tsr.acc.pendingLoad = s.tsr.acc.pendingLoad)
    ∧ ((∀ a z, i ≠ .storeop a z) → i ≠ .pushsnapshot → t.tsr.acc.pendingStore = s.tsr.acc.pendingStore)
    ∧ (i = .pushsnapshot → t.tsr.acc.pendingLoad = none ∧ t.tsr.acc.pendingStore = none)

/-! ### Trace reading -/

/-- R542: the values the spec states; the unspecified image contents (R543) are not claimed. -/
def Obligations.TraceReadCallResetsTsrAndExh : Prop :=
  ∀ (s : State) (stream : List Byte) (calls : List Request), s.active = .idle → s.requests = .traceRead stream :: calls →
    ∃ t, step s = .next t ∧ t = { s with requests := calls, active := .trace, tsr := t.tsr, exh := t.exh }
      ∧ t.tsr.stream = stream ∧ t.tsr.acc.regsValid = false ∧ t.tsr.acc.dmemValid = false ∧ t.tsr.acc.imemValid = false
      ∧ t.tsr.acc.pendingLoad = none ∧ t.tsr.acc.pendingStore = none ∧ t.tsr.cursor = 0 ∧ t.tsr.status = .running
      ∧ t.tsr.snapshots = []
      ∧ (∀ k, t.exh.record k = { executed := false, timesExecuted := 0, branchTo := [], branchFrom := [] })
      ∧ t.exh.prevPc = none ∧ t.exh.fault = none

/-- R453, R454, R466, R468. -/
def Obligations.TraceEndsInTheOrderOfItsChecks : Prop :=
  ∀ (s : State), s.active = .trace → s.tsr.status = .running →
    (s.tsr.cursor = s.tsr.stream.length →
      step s = .next { s with active := .idle, tsr := { s.tsr with status := .done } })
    ∧ (∀ b, s.tsr.stream[s.tsr.cursor]? = some b → b ∉ s.params.tags →
      step s = .next { s with active := .idle, tsr := { s.tsr with status := .fatal (.badTag b s.tsr.cursor) } })
    ∧ (∀ b kind, s.tsr.stream[s.tsr.cursor]? = some b → s.params.kindOf b = some kind →
      s.tsr.stream.length < s.tsr.cursor + 1 + s.params.payloadLength kind →
      step s = .next { s with active := .idle, tsr := { s.tsr with status := (TsrStatus.fatal
        (.truncated b s.tsr.cursor (s.params.payloadLength kind) (s.tsr.stream.length - s.tsr.cursor - 1))) } })

/-- R467, R40. Derived: hiding what State keeps after Fatal (log 20) and the refusal noSnapshot (log 12) are the model's choices;
the last clause is of states no run reaches. -/
def Obligations.FatalReturnsOnlyItsDiagnostic : Prop :=
  ∀ (s : State) (d : TsrDiag), s.tsr.status = .fatal d →
    s.traceResult = some (.fatal d) ∧ s.hostSnapshots = [] ∧ (∀ k, s.resolve (.committed k) = .error .noSnapshot)
      ∧ (s.active = .trace → step s = .next { s with active := .idle })

/-- R465, R470, R85. -/
def Obligations.SnapshotsAreOnlyAppended : Prop :=
  ∀ s t : State, step s = .next t →
    (∃ stream calls, s.active = .idle ∧ s.requests = .traceRead stream :: calls)
      ∨ (s.tsr.snapshots <+: t.tsr.snapshots ∧ t.tsr.snapshots.length ≤ s.tsr.snapshots.length + 1
          ∧ s.tsr.cursor ≤ t.tsr.cursor)

/-- R469, with R476 and R518: the call ends; on Done the snapshots are as many as the PUSHSNAPSHOT packets. -/
def Obligations.TraceReadTerminates : Prop :=
  (∀ s : State, s.params.ok → s.active = .trace → s.tsr.cursor ≤ s.tsr.stream.length →
    ∃ n, ∃ t : State, n ≤ s.tsr.stream.length - s.tsr.cursor + 1 ∧ Sys2Proof.core.run n s = .next t
      ∧ t.active = .idle ∧ t.tsr.status ≠ .running)
    ∧ (∀ s t : State, s.active = .trace → step s = .next t → t.active = .idle ∨ s.tsr.cursor < t.tsr.cursor)
    ∧ ∀ packets : List Instr, (snapshotsOf packets).length = packets.count .pushsnapshot

/-- R463, R450, R455 to R462, R466: a whole trace against the description by the last packet of each kind. Derived: the step the
call itself takes (log 4), and no byte listed in a component no packet has set (log 7; R543 leaves its contents unspecified), are
the model's choices. -/
def Obligations.TraceReadCommitsTheFreshSnapshots : Prop :=
  ∀ (s : State) (packets : List Instr) (calls : List Request), s.params.ok → s.active = .idle →
    s.requests = .traceRead (packets.flatMap (encode s.params)) :: calls →
    (∀ i ∈ packets, i.slot s.params = .packet ∧ i.wf s.params = true) →
    ∃ t : State, Sys2Proof.core.run (packets.length + 2) s = .next t ∧ t.active = .idle ∧ t.requests = calls
      ∧ t.traceResult = some (.done (snapshotsOf packets)
          (if s.params.hasExh then some (exhOf s.params (snapshotsOf packets)) else none))

/-- R453, R454, R467, R468 over a whole trace. Derived: the step the call itself takes is the model's choice (log 4). -/
def Obligations.MalformedTailIsFatal : Prop :=
  ∀ (s : State) (packets : List Instr) (b : Byte) (tail : List Byte) (calls : List Request), s.params.ok → s.active = .idle →
    s.requests = .traceRead (packets.flatMap (encode s.params) ++ b :: tail) :: calls →
    (∀ i ∈ packets, i.slot s.params = .packet ∧ i.wf s.params = true) →
    (s.params.kindOf b = none →
      ∃ t : State, Sys2Proof.core.run (packets.length + 2) s = .next t ∧ t.active = .idle
        ∧ t.traceResult = some (.fatal (.badTag b (packets.flatMap (encode s.params)).length)))
    ∧ (∀ kind, s.params.kindOf b = some kind → tail.length < s.params.payloadLength kind →
      ∃ t : State, Sys2Proof.core.run (packets.length + 2) s = .next t ∧ t.active = .idle
        ∧ t.traceResult = some (.fatal (.truncated b (packets.flatMap (encode s.params)).length
            (s.params.payloadLength kind) tail.length)))

/-! ### EXH -/

/-- R492 to R496, R498 to R500, record by record and key by key. -/
def Obligations.CommitUpdatesTheHistory : Prop :=
  ∀ (p : Params) (e : Exh) (x : Snapshot) (index : Nat), p.ok → e.Wf →
    ∃ e', e.onCommit p x index = some e'
      ∧ (e.fault ≠ none → e' = e)
      ∧ (e.fault = none → x.pc p = none → e' = { e with fault := some (.pcUnavailable index) })
      ∧ (∀ pc, e.fault = none → x.pc p = some pc → 16384 ≤ pc.toNat → e' = { e with fault := some (.pcOutOfRange pc index) })
      ∧ (∀ pc, e.fault = none → x.pc p = some pc → pc.toNat < 16384 →
          e'.fault = none ∧ e'.prevPc = some pc ∧ ∀ k q : Nat,
            (e'.record k).executed = ((e.record k).executed || decide (k = pc.toNat / 8))
            ∧ (e'.record k).timesExecuted = (e.record k).timesExecuted + (if k = pc.toNat / 8 then 1 else 0)
            ∧ Sparse.get 0 (e'.record k).branchTo q = Sparse.get 0 (e.record k).branchTo q
                + (match e.prevPc with
                  | some prev => if prev.toNat + 8 ≠ pc.toNat ∧ k = prev.toNat / 8 ∧ q = pc.toNat then 1 else 0
                  | none => 0)
            ∧ Sparse.get 0 (e'.record k).branchFrom q = Sparse.get 0 (e.record k).branchFrom q
                + (match e.prevPc with
                  | some prev => if prev.toNat + 8 ≠ pc.toNat ∧ k = pc.toNat / 8 ∧ q = prev.toNat then 1 else 0
                  | none => 0))

/-- R492 to R496, R500, R502, R503: EXH as a whole. -/
def Obligations.HistoryCountsEveryAcceptedCommit : Prop :=
  ∀ (p : Params) (snapshots : List Snapshot), p.ok →
    let e := exhOf p snapshots
    let pcs := acceptedPcs p snapshots
    e.prevPc = pcs.getLast?
    ∧ (∀ a q, (e.record a).timesExecuted = visits a pcs ∧ (e.record a).executed = decide (0 < visits a pcs)
        ∧ Sparse.get 0 (e.record a).branchTo q = edgesTo a q pcs
        ∧ Sparse.get 0 (e.record a).branchFrom q = edgesFrom a q pcs)
    ∧ e.edgesOut = countAdjacent (fun x y => decide (isEdge x y)) pcs
    ∧ e.edgesIn = countAdjacent (fun x y => decide (isEdge x y)) pcs

/-- R501. -/
def Obligations.EdgeAccounting : Prop :=
  ∀ (p : Params) (snapshots : List Snapshot) (a : Nat), p.ok →
    let r := (exhOf p snapshots).record a
    let pcs := acceptedPcs p snapshots
    r.timesExecuted = Sparse.total r.branchFrom + arrivals a pcs + inRecord a pcs.head?
      ∧ r.timesExecuted = Sparse.total r.branchTo + departures a pcs + inRecord a pcs.getLast?

/-- R490, R491. -/
def Obligations.HistoryIsThatOfTheSnapshots : Prop :=
  ∀ s t : State, (s.params.hasExh = true → s.exh = exhOf s.params s.tsr.snapshots) → step s = .next t →
    t.params.hasExh = true → t.exh = exhOf t.params t.tsr.snapshots

/-- R503, with R497: every record of every history that commits build from reset. -/
def Obligations.HistoryIsConsistent : Prop :=
  ∀ (p : Params) (snapshots : List Snapshot) (k : Nat),
    let r := (exhOf p snapshots).record k
    (r.executed = true ↔ 0 < r.timesExecuted) ∧ 0 ≤ r.fallIn ∧ 0 ≤ r.fallOut

/-! ### GPD -/

/-- R401, R541. -/
def Obligations.GsDecodeCallStartsAtTheWindow : Prop :=
  ∀ (s : State) (ref : SnapshotRef) (x : Snapshot) (off n : Nat) (calls : List Request),
    s.active = .idle → s.requests = .gsDecode ref off n :: calls → s.resolve ref = .ok x → x.dmemValid = true →
    Image.wf dataBytes x.dmem = true →
    (off + n ≤ 16384 → step s = .next { s with requests := calls, active := .packet, gpd := {
        dmem := x.dmem, base := off, limit := n, cursor := 0, phase := .tag, packet := [], status := .running } })
    ∧ (16384 < off + n → step s = .refused .badWindow)

/-- R404, R405, R410, R411, R416, R422, R423. -/
def Obligations.TagBeatStep : Prop :=
  ∀ s : State, s.active = .packet → s.gpd.status = .running → s.gpd.phase = .tag →
    s.gpd.base + s.gpd.limit ≤ 16384 →
    let g := s.gpd
    let bytes := Image.bytesFrom g.dmem (g.base + g.cursor) 16
    let t := tagOfBeat (le64 bytes) (le64 (bytes.drop 8))
    let opened : Gpd := { g with cursor := g.cursor + 16, packet := g.packet ++ [{ tag := t, items := [] }] }
    step s = .next (
      if g.limit < g.cursor + 16 then
        { s with active := .idle, gpd := { g with status := .partialEnd (.overrun .tagBeat g.cursor) } }
      else if t.mode ≠ .packed then
        { s with active := .idle, gpd := { opened with status := .partialEnd (.unsupportedMode t.mode) } }
      else if t.nloop.toNat * effectiveCount t.nreg = 0 then
        (if t.eop then { s with active := .idle, gpd := { opened with phase := .tag, status := .complete } }
          else { s with gpd := { opened with phase := .tag } })
      else { s with gpd := { opened with phase := .items 0 0 } })

/-- R404, R412, R416, R419. -/
def Obligations.ItemBeatStep : Prop :=
  ∀ (s : State) (l r : Nat) (p : GsPrimitive) (reg : BitVec 4), s.active = .packet → s.gpd.status = .running →
    s.gpd.phase = .items l r → s.gpd.packet.getLast? = some p → p.tag.regs[r]? = some reg →
    s.gpd.base + s.gpd.limit ≤ 16384 →
    let g := s.gpd
    let item := readItem g.dmem (g.base + g.cursor) reg
    let read : Gpd := { g with cursor := g.cursor + 16,
                               packet := g.packet.dropLast ++ [{ p with items := p.items ++ [item] }] }
    step s = .next (
      if g.limit < g.cursor + 16 then
        { s with active := .idle, gpd := { g with status := .partialEnd (.overrun (.itemBeat l r) g.cursor) } }
      else if r + 1 < p.tag.regs.length then { s with gpd := { read with phase := .items l (r + 1) } }
      else if l + 1 < p.tag.nloop.toNat then { s with gpd := { read with phase := .items (l + 1) 0 } }
      else if p.tag.eop then { s with active := .idle, gpd := { read with phase := .tag, status := .complete } }
      else { s with gpd := { read with phase := .tag } })

/-- R403, R410, R419, R42. -/
def Obligations.GpdOnlyAppends : Prop :=
  ∀ s t : State, s.active = .packet → step s = .next t →
    (t.gpd.cursor = s.gpd.cursor ∨ t.gpd.cursor = s.gpd.cursor + 16)
      ∧ ∀ (k : Nat) (p : GsPrimitive), s.gpd.packet[k]? = some p → ∃ q : GsPrimitive, t.gpd.packet[k]? = some q ∧ q.tag = p.tag ∧ p.items <+: q.items

/-- R403 to R415: what a decode has built, against the image. -/
def Obligations.PacketIsWhatStandsInTheWindow : Prop :=
  (∀ s t : State, s.gpd.Wf → PacketRead s.gpd.dmem s.gpd.base s.gpd.packet → step s = .next t →
      t.gpd.Wf ∧ PacketRead t.gpd.dmem t.gpd.base t.gpd.packet)
    ∧ State.reset.gpd.Wf ∧ PacketRead State.reset.gpd.dmem State.reset.gpd.base State.reset.gpd.packet

/-- R417. -/
def Obligations.ReturnedPacketsHaveTheFormOfTheirDiagnostic : Prop :=
  ∀ (s : State) (packet : List GsPrimitive) (diag : Option GpdDiag), s.gpd.Wf → s.gsResult = some (packet, diag) →
    match diag with
    | none => ∃ p, packet.getLast? = some p ∧ p.tag.eop = true ∧ (∀ q ∈ packet.dropLast, q.tag.eop = false)
        ∧ ∀ q ∈ packet, q.tag.mode = .packed ∧ q.items.length = q.tag.nloop.toNat * effectiveCount q.tag.nreg
    | some (.overrun _ _) => packet = [] ∨ ∃ p, packet.getLast? = some p
        ∧ (p.tag.eop = false ∨ p.items.length < p.tag.nloop.toNat * effectiveCount p.tag.nreg)
    | some (.unsupportedMode m) => ∃ p, packet.getLast? = some p ∧ p.tag.mode = m ∧ m ≠ .packed ∧ p.items = []

/-- R418, R518. -/
def Obligations.GsDecodeTerminates : Prop :=
  (∀ s : State, s.gpd.Wf → s.active = .packet →
    ∃ n, ∃ t : State, n ≤ (s.gpd.limit - s.gpd.cursor) / 16 + 1 ∧ Sys2Proof.core.run n s = .next t ∧ t.active = .idle
      ∧ t.gpd.status ≠ .running ∧ t.gpd.cursor ≤ t.gpd.limit ∧ t.gpd.cursor = 16 * beatsOf t.gpd.packet)
    ∧ ∀ s t : State, s.gpd.Wf → s.active = .packet → step s = .next t →
        t.active = .idle ∨ (t.gpd.cursor = s.gpd.cursor + 16 ∧ t.gpd.cursor ≤ t.gpd.limit)

/-- R424, R401, R403. -/
def Obligations.GpdReadsOnlyItsWindow : Prop :=
  (∀ (g g' : Gpd) (img : Image), g.base + g.limit ≤ 16384 →
      (∀ a, g.base ≤ a → a < g.base + g.limit → Image.byte g.dmem a = Image.byte img a) →
      g.step = .ok g' → ({ g with dmem := img } : Gpd).step = .ok { g' with dmem := img })
    ∧ ∀ s t : State, s.active = .packet → step s = .next t →
        t = { s with gpd := t.gpd, active := t.active } ∧ t.gpd.dmem = s.gpd.dmem ∧ t.gpd.base = s.gpd.base
          ∧ t.gpd.limit = s.gpd.limit

/-! ### The block -/

/-- R36 to R43, R401 to R418, R501 to R503: the invariant of Safety. -/
def Obligations.StepKeepsTheInvariant : Prop :=
  ∀ s t : State, s.Wf → step s = .next t → t.Wf

/-- R541 to R544. -/
def Obligations.ResetSatisfiesTheInvariant : Prop :=
  State.reset.Wf ∧ State.reset.gpd.cursor = 0 ∧ State.reset.gpd.phase = .tag ∧ State.reset.gpd.packet = []
    ∧ State.reset.gpd.status = .running ∧ State.reset.tsr.acc.regsValid = false ∧ State.reset.tsr.acc.dmemValid = false
    ∧ State.reset.tsr.acc.imemValid = false ∧ State.reset.tsr.acc.pendingLoad = none
    ∧ State.reset.tsr.acc.pendingStore = none ∧ State.reset.tsr.cursor = 0 ∧ State.reset.tsr.status = .running
    ∧ State.reset.tsr.snapshots = []
    ∧ (∀ k, State.reset.exh.record k = { executed := false, timesExecuted := 0, branchTo := [], branchFrom := [] })
    ∧ State.reset.exh.prevPc = none ∧ State.reset.exh.fault = none

/-- R510, R516: no outcome stops the block; the model's faults are of unreachable states (log 14). -/
def Obligations.ReachableStatesNeverFault : Prop :=
  ∀ s : State, s.Wf → NoFault (step s)

/-- R13, R143, R173, R401, R511; the last two reasons and the order of the tests are the model's (log 12, log 22). -/
def Obligations.RefusalsAreOfTheNamedCalls : Prop :=
  (∀ (s : State) (r : Refusal), step s = .refused r ↔
      s.active = .idle ∧ ∃ q calls, s.requests = q :: calls ∧ RefusedFor s q r)
    ∧ ∀ (i : Instr) (s : State) (r : Refusal), exec i s ≠ .refused r

/-- R30, R45, R48, R171, R547; the idle stutter is the model's (log 4). -/
def Obligations.OneUnitMovesInAStep : Prop :=
  ∀ s t : State, step s = .next t → t.params = s.params ∧
    (s.active = .trace → t = { s with tsr := { t.tsr with stream := s.tsr.stream }, exh := t.exh, active := t.active })
    ∧ (s.active = .packet → t = { s with
        gpd := { t.gpd with dmem := s.gpd.dmem, base := s.gpd.base, limit := s.gpd.limit }, active := t.active })
    ∧ (s.active = .idle → s.requests = [] → t = s)
    ∧ ∀ q calls, s.active = .idle → s.requests = q :: calls →
        match q with
        | .extract _ _ _ => t = { s with requests := calls, bfxOut := t.bfxOut }
        | .traceRead stream =>
            t = { s with requests := calls, tsr := Tsr.start stream, exh := Exh.reset, active := .trace }
        | .gsDecode _ off n => t = { s with requests := calls, gpd := Gpd.start t.gpd.dmem off n, active := .packet }
        | .decodeLower _ _ => t = { s with requests := calls, idec := t.idec }
        | .decodeUpper _ _ => t = { s with requests := calls, idec := t.idec }
        | .decodePair _ _ _ => t = { s with requests := calls, idec := t.idec }
        | .decodePairAt _ _ => t = { s with requests := calls, idec := t.idec }
end

