-- ==== Sys2Proof/Laws/Bytes.lean ====
section
/-! SUPPORT. The laws of the byte-order helpers (00_scope R12): a value read back from its little-endian bytes. -/

namespace Sys2Proof

@[simp] theorem length_leBytes (n v : Nat) : (leBytes n v).length = n := by
  induction n generalizing v with
  | zero => rfl
  | succ n ih => simp [leBytes, ih]

/-- `n` little-endian bytes give the value back modulo `2^(8n)`. -/
theorem leNat_leBytes (n v : Nat) : leNat (leBytes n v) = v % 2 ^ (8 * n) := by
  induction n generalizing v with
  | zero => simp [leBytes, leNat, Nat.mod_one]
  | succ n ih =>
    simp only [leBytes, leNat, ih, BitVec.toNat_ofNat]
    rw [show 2 ^ (8 * (n + 1)) = 2 ^ 8 * 2 ^ (8 * n) by rw [← Nat.pow_add]; congr 1; omega]
    rw [Nat.mod_mul, show (256 : Nat) = 2 ^ 8 by norm_num]

/-- A byte string's value is below `2^(8 * length)`. -/
theorem leNat_lt (bytes : List Byte) : leNat bytes < 2 ^ (8 * bytes.length) := by
  induction bytes with
  | nil => simp [leNat]
  | cons b rest ih =>
    have hb := b.isLt
    rw [List.length_cons, show 8 * (rest.length + 1) = 8 * rest.length + 8 by omega, Nat.pow_add]
    simp only [leNat]
    omega

/-- A word read back from its own four bytes, whatever follows them. -/
theorem le32_leBytes_append (w : Word) (rest : List Byte) : le32 (leBytes 4 w.toNat ++ rest) = w := by
  have h : (leBytes 4 w.toNat ++ rest).take 4 = leBytes 4 w.toNat := by
    rw [List.take_append_of_le_length (by simp)]
    exact List.take_of_length_le (by simp)
  rw [le32, h, leNat_leBytes]
  apply BitVec.eq_of_toNat_eq
  have := w.isLt
  simp only [BitVec.toNat_ofNat]
  omega

/-- A word read back from its own four bytes. -/
theorem le32_leBytes (w : Word) : le32 (leBytes 4 w.toNat) = w := by
  simpa using le32_leBytes_append w []

/-- `LE32` reads the first four bytes only. -/
theorem le32_take (bytes : List Byte) (n : Nat) (h : 4 ≤ n) : le32 (bytes.take n) = le32 bytes := by
  rw [le32, List.take_take, Nat.min_eq_left h, le32]

end Sys2Proof
end

