-- ==== Sys2Proof/Laws/Decode.lean ====
section
/-! SUPPORT. What the decoders can answer: the dispatch tables cited through one lemma, and the packet decoder inverted. -/

namespace Sys2Proof

/-- What a lookup finds is listed. -/
theorem lookup_mem {α : Type} {table : List (Nat × α)} {k : Nat} {x : α} (h : table.lookup k = some x) :
    ∃ row ∈ table, row.2 = x := by
  induction table with
  | nil => simp at h
  | cons r rest ih =>
    rw [List.lookup_cons] at h
    split at h
    · exact ⟨r, by simp, by simpa using h⟩
    · obtain ⟨row, hr, hm⟩ := ih h
      exact ⟨row, by simp [hr], hm⟩

/-- What a table can answer: the row in the slot, applied to the word. -/
theorem selectRow_ok {table : List (Nat × (Word → Instr))} {k : Nat} {w : Word} {i : Instr}
    (h : selectRow table k w = .ok i) : ∃ mk, table.lookup k = some mk ∧ i = mk w := by
  unfold selectRow at h
  split at h
  · next mk hmk => exact ⟨mk, hmk, by simpa using h.symm⟩
  · simp at h

/-- A table answers the sentinel exactly where its slot is empty. -/
theorem selectRow_error {table : List (Nat × (Word → Instr))} {k : Nat} {w : Word} {e : DecodeError} :
    selectRow table k w = .error e ↔ table.lookup k = none ∧ e = .badInstruction := by
  unfold selectRow
  cases table.lookup k with
  | none => simp [eq_comm]
  | some mk => simp

/-- What the lower decoder can do at its first level. -/
theorem decodeLower_eq (w : Word) :
    decodeLower w = if (bits 25 7 w).toNat = 0x40 then decodeLowerOp w else selectRow lowerTable (bits 25 7 w).toNat w := rfl

/-- The one error of the upper decoder. -/
theorem decodeUpper_error {w : Word} {e : DecodeError} (h : decodeUpper w = .error e) : e = .badInstruction := by
  unfold decodeUpper at h
  split at h <;> exact (selectRow_error.mp h).2

/-- The one error of the lower decoder. -/
theorem decodeLower_error {w : Word} {e : DecodeError} (h : decodeLower w = .error e) : e = .badInstruction := by
  rw [decodeLower_eq] at h
  split at h
  · unfold decodeLowerOp at h
    split at h <;> exact (selectRow_error.mp h).2
  · exact (selectRow_error.mp h).2

/-! ### Packets -/

/-- What `decodePacket` answers when it reads a packet. -/
theorem decodePacket_ok {p : Params} {bytes rest : List Byte} {i : Instr} (h : decodePacket p bytes = .ok (i, rest)) :
    ∃ b kind tail, bytes = b :: tail ∧ p.kindOf b = some kind ∧ p.payloadLength kind ≤ tail.length
      ∧ i = packetOf kind (tail.take (p.payloadLength kind)) ∧ rest = tail.drop (p.payloadLength kind) := by
  cases bytes with
  | nil => simp [decodePacket] at h
  | cons b tail =>
    simp only [decodePacket] at h
    split at h
    · simp at h
    · next kind hk =>
      split at h
      · simp at h
      · next hl =>
        simp only [Except.ok.injEq, Prod.mk.injEq] at h
        exact ⟨b, kind, tail, rfl, hk, by omega, h.1.symm, h.2.symm⟩

/-- What `decodePacket` answers when it reads none, with the order of R468. -/
theorem decodePacket_error {p : Params} {bytes : List Byte} {e : PacketError} (h : decodePacket p bytes = .error e) :
    (bytes = [] ∧ e = .endOfStream)
      ∨ (∃ b tail, bytes = b :: tail ∧ p.kindOf b = none ∧ e = .badTag b)
      ∨ (∃ b kind tail, bytes = b :: tail ∧ p.kindOf b = some kind ∧ tail.length < p.payloadLength kind
          ∧ e = .truncated b (p.payloadLength kind) tail.length) := by
  cases bytes with
  | nil => exact .inl ⟨rfl, by simpa [decodePacket] using h.symm⟩
  | cons b tail =>
    simp only [decodePacket] at h
    split at h
    · next hk => exact .inr (.inl ⟨b, tail, rfl, hk, by simpa using h.symm⟩)
    · next kind hk =>
      split at h
      · next hl => exact .inr (.inr ⟨b, kind, tail, rfl, hk, hl, by simpa using h.symm⟩)
      · simp at h

/-- A packet that was read is one of the six, well formed, and shorter input is left. -/
theorem decodePacket_wf {p : Params} {bytes rest : List Byte} {i : Instr} (h : decodePacket p bytes = .ok (i, rest)) :
    i.wf p = true ∧ i.slot p = .packet ∧ rest.length < bytes.length ∧ ∃ used, bytes = used ++ rest := by
  obtain ⟨b, kind, tail, rfl, -, hl, rfl, rfl⟩ := decodePacket_ok h
  refine ⟨?_, ?_, by simp, b :: tail.take (p.payloadLength kind), by simp⟩
  · cases kind <;> simp_all [packetOf, Instr.wf, Params.payloadLength]
  · cases kind <;> rfl

end Sys2Proof
end

