-- ==== Sys2Proof/Laws/Encoding.lean ====
section
/-! SUPPORT. Each field of an encoded word reads back, and a decoder reads the row of an encoded word. -/

namespace Sys2Proof

theorem bits_append_low {n m low len : Nat} (a : BitVec n) (b : BitVec m) (h : low + len ≤ m) :
    bits low len (a ++ b) = bits low len b := by
  apply BitVec.eq_of_getLsbD_eq
  intro i hi
  simp only [bits, BitVec.getLsbD_extractLsb', BitVec.getLsbD_append]
  rw [if_pos (by omega)]

theorem bits_append_high {n m low len : Nat} (a : BitVec n) (b : BitVec m) (h : m ≤ low) :
    bits low len (a ++ b) = bits (low - m) len a := by
  apply BitVec.eq_of_getLsbD_eq
  intro i hi
  simp only [bits, BitVec.getLsbD_extractLsb', BitVec.getLsbD_append]
  rw [if_neg (by omega), show low + i - m = low - m + i by omega]

theorem bits_self {n : Nat} (a : BitVec n) : bits 0 n a = a := by
  apply BitVec.eq_of_getLsbD_eq
  intro i hi
  simp [bits, hi]

/-- A value put together from its high and low bits. -/
theorem bits_append_bits {h l : Nat} (a : BitVec (h + l)) : bits l h a ++ bits 0 l a = a := by
  apply BitVec.eq_of_getLsbD_eq
  intro i hi
  simp only [bits, BitVec.getLsbD_append, BitVec.getLsbD_extractLsb']
  by_cases hl : i < l
  · simp [hl]
  · rw [if_neg hl, show l + (i - l) = i by omega]
    simp; omega

/-! ### The parts of an encoding -/

@[simp] theorem bits_mini (r : BitVec 4) : bits 0 4 (mini r) = r := (bits_append_low _ _ (by decide)).trans (bits_self _)

@[simp] theorem bits_selectors_low (a b : BitVec 2) : bits 0 2 (a ++ b : BitVec 4) = b :=
  (bits_append_low _ _ (by decide)).trans (bits_self _)

@[simp] theorem bits_selectors_high (a b : BitVec 2) : bits 2 2 (a ++ b : BitVec 4) = a :=
  (bits_append_high _ _ (by decide)).trans (bits_self _)

@[simp] theorem bits_imm12_high (b : BitVec 1) : bits 0 1 (0#3 ++ b : BitVec 4) = b :=
  (bits_append_low _ _ (by decide)).trans (bits_self _)

@[simp] theorem bits_opcode_low (a : BitVec 5) (b : BitVec 6) : bits 0 6 (a ++ b : BitVec 11) = b :=
  (bits_append_low _ _ (by decide)).trans (bits_self _)

@[simp] theorem bits_opcode_high (a : BitVec 5) (b : BitVec 6) : bits 6 5 (a ++ b : BitVec 11) = a :=
  (bits_append_high _ _ (by decide)).trans (bits_self _)

@[simp] theorem bits_opcode_mini (a : BitVec 5) (b : BitVec 6) : bits 6 4 (a ++ b : BitVec 11) = bits 0 4 a :=
  bits_append_high _ _ (by decide)

@[simp] theorem imm12_parts (v : BitVec 12) : (bits 11 1 v ++ bits 0 11 v : BitVec 12) = v := bits_append_bits (h := 1) (l := 11) v

@[simp] theorem imm15_parts (v : BitVec 15) : (bits 11 4 v ++ bits 0 11 v : BitVec 15) = v := bits_append_bits (h := 4) (l := 11) v

/-! ### The upper word (R91) -/

section Upper

variable (dest : BitVec 4) (ft fs fd : BitVec 5) (op6 : BitVec 6)

@[simp] theorem upperWord_op6 : bits 0 6 (upperWord dest ft fs fd op6) = op6 :=
  (bits_append_low _ _ (by decide)).trans (bits_self _)

@[simp] theorem upperWord_fd : Field.fd (upperWord dest ft fs fd op6) = fd :=
  (bits_append_high _ _ (by decide)).trans ((bits_append_low _ _ (by decide)).trans (bits_self _))

@[simp] theorem upperWord_index : bits 6 5 (upperWord dest ft fs fd op6) = fd := upperWord_fd ..

@[simp] theorem upperWord_fs : Field.fs (upperWord dest ft fs fd op6) = fs :=
  (bits_append_high _ _ (by decide)).trans ((bits_append_high _ _ (by decide)).trans
    ((bits_append_low _ _ (by decide)).trans (bits_self _)))

@[simp] theorem upperWord_ft : Field.ft (upperWord dest ft fs fd op6) = ft :=
  (bits_append_high _ _ (by decide)).trans ((bits_append_high _ _ (by decide)).trans
    ((bits_append_high _ _ (by decide)).trans ((bits_append_low _ _ (by decide)).trans (bits_self _))))

@[simp] theorem upperWord_dest : Field.dest (upperWord dest ft fs fd op6) = dest :=
  (bits_append_high _ _ (by decide)).trans ((bits_append_high _ _ (by decide)).trans
    ((bits_append_high _ _ (by decide)).trans ((bits_append_high _ _ (by decide)).trans
      ((bits_append_low _ _ (by decide)).trans (bits_self _)))))

end Upper

/-! ### The lower word (R93) -/

section Lower

variable (op7 : BitVec 7) (dest : BitVec 4) (ft fs : BitVec 5) (low : BitVec 11)

/-- Inside bits 10:0. -/
theorem lowerWord_low {at_ len : Nat} (h : at_ + len ≤ 11) :
    bits at_ len (lowerWord op7 dest ft fs low) = bits at_ len low := bits_append_low _ _ h

/-- Inside bits 15:11. -/
theorem lowerWord_mid1 {at_ len : Nat} (h : at_ + len ≤ 5) :
    bits (11 + at_) len (lowerWord op7 dest ft fs low) = bits at_ len fs :=
  (bits_append_high _ _ (by omega)).trans (by
    rw [show 11 + at_ - 11 = at_ by omega]; exact bits_append_low _ _ h)

/-- Inside bits 20:16. -/
theorem lowerWord_mid2 {at_ len : Nat} (h : at_ + len ≤ 5) :
    bits (16 + at_) len (lowerWord op7 dest ft fs low) = bits at_ len ft :=
  (bits_append_high _ _ (by omega)).trans ((bits_append_high _ _ (by omega)).trans (by
    rw [show 16 + at_ - 11 - 5 = at_ by omega]; exact bits_append_low _ _ h))

/-- Inside bits 24:21. -/
theorem lowerWord_mid3 {at_ len : Nat} (h : at_ + len ≤ 4) :
    bits (21 + at_) len (lowerWord op7 dest ft fs low) = bits at_ len dest :=
  (bits_append_high _ _ (by omega)).trans ((bits_append_high _ _ (by omega)).trans ((bits_append_high _ _ (by omega)).trans (by
    rw [show 21 + at_ - 11 - 5 - 5 = at_ by omega]; exact bits_append_low _ _ h)))

@[simp] theorem lowerWord_op7 : bits 25 7 (lowerWord op7 dest ft fs low) = op7 :=
  (bits_append_high _ _ (by decide)).trans ((bits_append_high _ _ (by decide)).trans
    ((bits_append_high _ _ (by decide)).trans ((bits_append_high _ _ (by decide)).trans (bits_self _))))

@[simp] theorem lowerWord_dest : Field.dest (lowerWord op7 dest ft fs low) = dest :=
  (lowerWord_mid3 (at_ := 0) _ _ _ _ _ (by decide)).trans (bits_self _)

@[simp] theorem lowerWord_fsf : Field.fsf (lowerWord op7 dest ft fs low) = bits 0 2 dest :=
  lowerWord_mid3 (at_ := 0) _ _ _ _ _ (by decide)

@[simp] theorem lowerWord_ftf : Field.ftf (lowerWord op7 dest ft fs low) = bits 2 2 dest :=
  lowerWord_mid3 (at_ := 2) _ _ _ _ _ (by decide)

@[simp] theorem lowerWord_ft : Field.ft (lowerWord op7 dest ft fs low) = ft :=
  (lowerWord_mid2 (at_ := 0) _ _ _ _ _ (by decide)).trans (bits_self _)

@[simp] theorem lowerWord_it : Field.it (lowerWord op7 dest ft fs low) = bits 0 4 ft :=
  lowerWord_mid2 (at_ := 0) _ _ _ _ _ (by decide)

@[simp] theorem lowerWord_fs : Field.fs (lowerWord op7 dest ft fs low) = fs :=
  (lowerWord_mid1 (at_ := 0) _ _ _ _ _ (by decide)).trans (bits_self _)

@[simp] theorem lowerWord_is : Field.is (lowerWord op7 dest ft fs low) = bits 0 4 fs :=
  lowerWord_mid1 (at_ := 0) _ _ _ _ _ (by decide)

@[simp] theorem lowerWord_id : Field.id (lowerWord op7 dest ft fs low) = bits 6 4 low := lowerWord_low _ _ _ _ _ (by decide)

@[simp] theorem lowerWord_sub6 : bits 0 6 (lowerWord op7 dest ft fs low) = bits 0 6 low := lowerWord_low _ _ _ _ _ (by decide)

@[simp] theorem lowerWord_index : bits 6 5 (lowerWord op7 dest ft fs low) = bits 6 5 low := lowerWord_low _ _ _ _ _ (by decide)

@[simp] theorem lowerWord_imm5 : Field.imm5 (lowerWord op7 dest ft fs low) = bits 6 5 low := lowerWord_index ..

@[simp] theorem lowerWord_imm11 : Field.imm11 (lowerWord op7 dest ft fs low) = low :=
  (lowerWord_low _ _ _ _ _ (by decide)).trans (bits_self _)

@[simp] theorem lowerWord_imm12 : Field.imm12 (lowerWord op7 dest ft fs low) = (bits 0 1 dest ++ low : BitVec 12) := by
  unfold Field.imm12
  rw [show bits 21 1 (lowerWord op7 dest ft fs low) = bits 0 1 dest from lowerWord_mid3 (at_ := 0) _ _ _ _ _ (by decide),
    show bits 0 11 (lowerWord op7 dest ft fs low) = low from lowerWord_imm11 ..]

@[simp] theorem lowerWord_imm15 : Field.imm15 (lowerWord op7 dest ft fs low) = (dest ++ low : BitVec 15) := by
  unfold Field.imm15
  rw [show bits 21 4 (lowerWord op7 dest ft fs low) = dest from lowerWord_dest ..,
    show bits 0 11 (lowerWord op7 dest ft fs low) = low from lowerWord_imm11 ..]

@[simp] theorem lowerImm24_op7 (imm24 : BitVec 24) : bits 25 7 (lowerImm24 op7 imm24) = op7 :=
  (bits_append_high _ _ (by decide)).trans ((bits_append_high _ _ (by decide)).trans (bits_self _))

@[simp] theorem lowerImm24_imm24 (imm24 : BitVec 24) : Field.imm24 (lowerImm24 op7 imm24) = imm24 :=
  (bits_append_low _ _ (by decide)).trans (bits_self _)

end Lower

/-! ### The row of an encoded word -/

theorem decodeUpper_row {w : Word} {i : Instr} {mk : Word → Instr} (op6 : BitVec 6) (h : bits 0 6 w = op6)
    (h1 : upperLink op6.toNat = none) (h2 : upperTable.lookup op6.toNat = some mk) (h3 : mk w = i) :
    decodeUpper w = .ok i := by
  subst h3
  simp [decodeUpper, h, h1, selectRow, h2]

theorem decodeUpper_sub {w : Word} {i : Instr} {mk : Word → Instr} {table : List (Nat × (Word → Instr))} (op6 : BitVec 6)
    (index : BitVec 5) (h : bits 0 6 w = op6) (hi : bits 6 5 w = index) (h1 : upperLink op6.toNat = some table)
    (h2 : table.lookup index.toNat = some mk) (h3 : mk w = i) : decodeUpper w = .ok i := by
  subst h3
  simp [decodeUpper, h, hi, h1, selectRow, h2]

theorem decodeLower_row {w : Word} {i : Instr} {mk : Word → Instr} (op7 : BitVec 7) (h : bits 25 7 w = op7)
    (h1 : op7.toNat ≠ 0x40) (h2 : lowerTable.lookup op7.toNat = some mk) (h3 : mk w = i) : decodeLower w = .ok i := by
  subst h3
  rw [decodeLower_eq, h, if_neg h1]
  simp [selectRow, h2]

theorem decodeLower_op {w : Word} {i : Instr} {mk : Word → Instr} (sub6 : BitVec 6) (h : bits 25 7 w = 0x40#7)
    (hs : bits 0 6 w = sub6) (h1 : lowerLink sub6.toNat = none) (h2 : lowerOpTable.lookup sub6.toNat = some mk)
    (h3 : mk w = i) : decodeLower w = .ok i := by
  subst h3
  rw [decodeLower_eq, h, if_pos (by decide)]
  simp [decodeLowerOp, hs, h1, selectRow, h2]

theorem decodeLower_sub {w : Word} {i : Instr} {mk : Word → Instr} {table : List (Nat × (Word → Instr))} (sub6 : BitVec 6)
    (index : BitVec 5) (h : bits 25 7 w = 0x40#7) (hs : bits 0 6 w = sub6) (hi : bits 6 5 w = index)
    (h1 : lowerLink sub6.toNat = some table) (h2 : table.lookup index.toNat = some mk) (h3 : mk w = i) :
    decodeLower w = .ok i := by
  subst h3
  rw [decodeLower_eq, h, if_pos (by decide)]
  simp [decodeLowerOp, hs, hi, h1, selectRow, h2]

/-! ### The bytes of an encoded instruction -/

theorem decode_upper {p : Params} {i : Instr} {w : Word} (he : encoding p i = .word .upper w) (hd : decodeUpper w = .ok i)
    (rest : List Byte) : decode p (i.slot p) (encode p i ++ rest) = .ok (i, rest) := by
  simp only [Instr.slot, encode, he, Encoding.slot, Encoding.bytes, decode]
  rw [if_neg (by simp), le32_leBytes_append, hd]
  simp

theorem decode_lower {p : Params} {i : Instr} {w : Word} (he : encoding p i = .word .lower w) (hd : decodeLower w = .ok i)
    (rest : List Byte) : decode p (i.slot p) (encode p i ++ rest) = .ok (i, rest) := by
  simp only [Instr.slot, encode, he, Encoding.slot, Encoding.bytes, decode]
  rw [if_neg (by simp), le32_leBytes_append, hd]
  simp

/-- Each tag names its own kind: the six tags are distinct (R6, R453). -/
theorem kindOf_tag {p : Params} (hp : p.ok) :
    p.kindOf p.tagPushSnapshot = some .pushSnapshot ∧ p.kindOf p.tagSetRegisters = some .setRegisters
      ∧ p.kindOf p.tagSetMemory = some .setMemory ∧ p.kindOf p.tagSetInstructions = some .setInstructions
      ∧ p.kindOf p.tagLoadOp = some .loadOp ∧ p.kindOf p.tagStoreOp = some .storeOp := by
  have h := hp.1
  simp only [Params.tags, List.nodup_cons, List.mem_cons, List.not_mem_nil, or_false, not_or] at h
  unfold Params.kindOf
  refine ⟨?_, ?_, ?_, ?_, ?_, ?_⟩ <;> simp_all [eq_comm]

theorem decode_packet {p : Params} {i : Instr} {tag : Byte} {payload : List Byte} {kind : PacketKind}
    (he : encoding p i = .packet (tag :: payload)) (hk : p.kindOf tag = some kind)
    (hl : payload.length = p.payloadLength kind) (hi : packetOf kind payload = i) (rest : List Byte) :
    decode p (i.slot p) (encode p i ++ rest) = .ok (i, rest) := by
  simp only [Instr.slot, encode, he, Encoding.slot, Encoding.bytes, decode, List.cons_append, decodePacket, hk]
  rw [if_neg (by simp [hl])]
  simp only [← hl, List.take_left, List.drop_left, hi]

end Sys2Proof
end

