-- ==== Sys2Proof/Laws/State.lean ====
section
/-! SUPPORT. One lemma for each field of each update of State, Gpd and Exh, so that no later proof unfolds a record
update. -/

namespace Sys2Proof.Machine


/-! ### State: writes -/

@[simp] theorem State.setAcc_params (s : State) (a : Snapshot) : (s.setAcc a).params = s.params := rfl
@[simp] theorem State.setAcc_requests (s : State) (a : Snapshot) : (s.setAcc a).requests = s.requests := rfl
@[simp] theorem State.setAcc_active (s : State) (a : Snapshot) : (s.setAcc a).active = s.active := rfl
@[simp] theorem State.setAcc_bfxOut (s : State) (a : Snapshot) : (s.setAcc a).bfxOut = s.bfxOut := rfl
@[simp] theorem State.setAcc_idec (s : State) (a : Snapshot) : (s.setAcc a).idec = s.idec := rfl
@[simp] theorem State.setAcc_gpd (s : State) (a : Snapshot) : (s.setAcc a).gpd = s.gpd := rfl
@[simp] theorem State.setAcc_tsr_stream (s : State) (a : Snapshot) : (s.setAcc a).tsr.stream = s.tsr.stream := rfl
@[simp] theorem State.setAcc_tsr_acc (s : State) (a : Snapshot) : (s.setAcc a).tsr.acc = a := rfl
@[simp] theorem State.setAcc_tsr_cursor (s : State) (a : Snapshot) : (s.setAcc a).tsr.cursor = s.tsr.cursor := rfl
@[simp] theorem State.setAcc_tsr_status (s : State) (a : Snapshot) : (s.setAcc a).tsr.status = s.tsr.status := rfl
@[simp] theorem State.setAcc_tsr_snapshots (s : State) (a : Snapshot) : (s.setAcc a).tsr.snapshots = s.tsr.snapshots := rfl
@[simp] theorem State.setAcc_exh (s : State) (a : Snapshot) : (s.setAcc a).exh = s.exh := rfl
@[simp] theorem State.setExh_params (s : State) (e : Exh) : (s.setExh e).params = s.params := rfl
@[simp] theorem State.setExh_requests (s : State) (e : Exh) : (s.setExh e).requests = s.requests := rfl
@[simp] theorem State.setExh_active (s : State) (e : Exh) : (s.setExh e).active = s.active := rfl
@[simp] theorem State.setExh_bfxOut (s : State) (e : Exh) : (s.setExh e).bfxOut = s.bfxOut := rfl
@[simp] theorem State.setExh_idec (s : State) (e : Exh) : (s.setExh e).idec = s.idec := rfl
@[simp] theorem State.setExh_gpd (s : State) (e : Exh) : (s.setExh e).gpd = s.gpd := rfl
@[simp] theorem State.setExh_tsr (s : State) (e : Exh) : (s.setExh e).tsr = s.tsr := rfl
@[simp] theorem State.setExh_exh (s : State) (e : Exh) : (s.setExh e).exh = e := rfl
@[simp] theorem State.appendSnapshot_params (s : State) : (s.appendSnapshot).params = s.params := rfl
@[simp] theorem State.appendSnapshot_requests (s : State) : (s.appendSnapshot).requests = s.requests := rfl
@[simp] theorem State.appendSnapshot_active (s : State) : (s.appendSnapshot).active = s.active := rfl
@[simp] theorem State.appendSnapshot_bfxOut (s : State) : (s.appendSnapshot).bfxOut = s.bfxOut := rfl
@[simp] theorem State.appendSnapshot_idec (s : State) : (s.appendSnapshot).idec = s.idec := rfl
@[simp] theorem State.appendSnapshot_gpd (s : State) : (s.appendSnapshot).gpd = s.gpd := rfl
@[simp] theorem State.appendSnapshot_tsr_stream (s : State) : (s.appendSnapshot).tsr.stream = s.tsr.stream := rfl
@[simp] theorem State.appendSnapshot_tsr_acc (s : State) : (s.appendSnapshot).tsr.acc = s.tsr.acc := rfl
@[simp] theorem State.appendSnapshot_tsr_cursor (s : State) : (s.appendSnapshot).tsr.cursor = s.tsr.cursor := rfl
@[simp] theorem State.appendSnapshot_tsr_status (s : State) : (s.appendSnapshot).tsr.status = s.tsr.status := rfl
@[simp] theorem State.appendSnapshot_tsr_snapshots (s : State) :
    (s.appendSnapshot).tsr.snapshots = s.tsr.snapshots ++ [s.tsr.acc] := rfl
@[simp] theorem State.appendSnapshot_exh (s : State) : (s.appendSnapshot).exh = s.exh := rfl
@[simp] theorem State.clearPending_params (s : State) : (s.clearPending).params = s.params := rfl
@[simp] theorem State.clearPending_requests (s : State) : (s.clearPending).requests = s.requests := rfl
@[simp] theorem State.clearPending_active (s : State) : (s.clearPending).active = s.active := rfl
@[simp] theorem State.clearPending_bfxOut (s : State) : (s.clearPending).bfxOut = s.bfxOut := rfl
@[simp] theorem State.clearPending_idec (s : State) : (s.clearPending).idec = s.idec := rfl
@[simp] theorem State.clearPending_gpd (s : State) : (s.clearPending).gpd = s.gpd := rfl
@[simp] theorem State.clearPending_tsr_stream (s : State) : (s.clearPending).tsr.stream = s.tsr.stream := rfl
@[simp] theorem State.clearPending_tsr_acc (s : State) :
    (s.clearPending).tsr.acc = { s.tsr.acc with pendingLoad := none, pendingStore := none } := rfl
@[simp] theorem State.clearPending_tsr_cursor (s : State) : (s.clearPending).tsr.cursor = s.tsr.cursor := rfl
@[simp] theorem State.clearPending_tsr_status (s : State) : (s.clearPending).tsr.status = s.tsr.status := rfl
@[simp] theorem State.clearPending_tsr_snapshots (s : State) : (s.clearPending).tsr.snapshots = s.tsr.snapshots := rfl
@[simp] theorem State.clearPending_exh (s : State) : (s.clearPending).exh = s.exh := rfl
@[simp] theorem State.setCursor_params (s : State) (c : Nat) : (s.setCursor c).params = s.params := rfl
@[simp] theorem State.setCursor_requests (s : State) (c : Nat) : (s.setCursor c).requests = s.requests := rfl
@[simp] theorem State.setCursor_active (s : State) (c : Nat) : (s.setCursor c).active = s.active := rfl
@[simp] theorem State.setCursor_bfxOut (s : State) (c : Nat) : (s.setCursor c).bfxOut = s.bfxOut := rfl
@[simp] theorem State.setCursor_idec (s : State) (c : Nat) : (s.setCursor c).idec = s.idec := rfl
@[simp] theorem State.setCursor_gpd (s : State) (c : Nat) : (s.setCursor c).gpd = s.gpd := rfl
@[simp] theorem State.setCursor_tsr_stream (s : State) (c : Nat) : (s.setCursor c).tsr.stream = s.tsr.stream := rfl
@[simp] theorem State.setCursor_tsr_acc (s : State) (c : Nat) : (s.setCursor c).tsr.acc = s.tsr.acc := rfl
@[simp] theorem State.setCursor_tsr_cursor (s : State) (c : Nat) : (s.setCursor c).tsr.cursor = c := rfl
@[simp] theorem State.setCursor_tsr_status (s : State) (c : Nat) : (s.setCursor c).tsr.status = s.tsr.status := rfl
@[simp] theorem State.setCursor_tsr_snapshots (s : State) (c : Nat) : (s.setCursor c).tsr.snapshots = s.tsr.snapshots := rfl
@[simp] theorem State.setCursor_exh (s : State) (c : Nat) : (s.setCursor c).exh = s.exh := rfl
@[simp] theorem State.setGpd_params (s : State) (g : Gpd) : (s.setGpd g).params = s.params := rfl
@[simp] theorem State.setGpd_requests (s : State) (g : Gpd) : (s.setGpd g).requests = s.requests := rfl
@[simp] theorem State.setGpd_active (s : State) (g : Gpd) : (s.setGpd g).active = s.active := rfl
@[simp] theorem State.setGpd_bfxOut (s : State) (g : Gpd) : (s.setGpd g).bfxOut = s.bfxOut := rfl
@[simp] theorem State.setGpd_idec (s : State) (g : Gpd) : (s.setGpd g).idec = s.idec := rfl
@[simp] theorem State.setGpd_gpd (s : State) (g : Gpd) : (s.setGpd g).gpd = g := rfl
@[simp] theorem State.setGpd_tsr (s : State) (g : Gpd) : (s.setGpd g).tsr = s.tsr := rfl
@[simp] theorem State.setGpd_exh (s : State) (g : Gpd) : (s.setGpd g).exh = s.exh := rfl
@[simp] theorem State.setIdec_params (s : State) (p : IdecPort) : (s.setIdec p).params = s.params := rfl
@[simp] theorem State.setIdec_requests (s : State) (p : IdecPort) : (s.setIdec p).requests = s.requests := rfl
@[simp] theorem State.setIdec_active (s : State) (p : IdecPort) : (s.setIdec p).active = s.active := rfl
@[simp] theorem State.setIdec_bfxOut (s : State) (p : IdecPort) : (s.setIdec p).bfxOut = s.bfxOut := rfl
@[simp] theorem State.setIdec_idec (s : State) (p : IdecPort) : (s.setIdec p).idec = p := rfl
@[simp] theorem State.setIdec_gpd (s : State) (p : IdecPort) : (s.setIdec p).gpd = s.gpd := rfl
@[simp] theorem State.setIdec_tsr (s : State) (p : IdecPort) : (s.setIdec p).tsr = s.tsr := rfl
@[simp] theorem State.setIdec_exh (s : State) (p : IdecPort) : (s.setIdec p).exh = s.exh := rfl
@[simp] theorem State.setLowerRes_params (s : State) (r : PairLower) : (s.setLowerRes r).params = s.params := rfl
@[simp] theorem State.setLowerRes_requests (s : State) (r : PairLower) : (s.setLowerRes r).requests = s.requests := rfl
@[simp] theorem State.setLowerRes_active (s : State) (r : PairLower) : (s.setLowerRes r).active = s.active := rfl
@[simp] theorem State.setLowerRes_bfxOut (s : State) (r : PairLower) : (s.setLowerRes r).bfxOut = s.bfxOut := rfl
@[simp] theorem State.setLowerRes_idec_lower (s : State) (r : PairLower) : (s.setLowerRes r).idec.lower = s.idec.lower := rfl
@[simp] theorem State.setLowerRes_idec_lowerAddr (s : State) (r : PairLower) :
    (s.setLowerRes r).idec.lowerAddr = s.idec.lowerAddr := rfl
@[simp] theorem State.setLowerRes_idec_upper (s : State) (r : PairLower) : (s.setLowerRes r).idec.upper = s.idec.upper := rfl
@[simp] theorem State.setLowerRes_idec_upperAddr (s : State) (r : PairLower) :
    (s.setLowerRes r).idec.upperAddr = s.idec.upperAddr := rfl
@[simp] theorem State.setLowerRes_idec_lowerRes (s : State) (r : PairLower) : (s.setLowerRes r).idec.lowerRes = some r := rfl
@[simp] theorem State.setLowerRes_idec_upperRes (s : State) (r : PairLower) :
    (s.setLowerRes r).idec.upperRes = s.idec.upperRes := rfl
@[simp] theorem State.setLowerRes_idec_flags (s : State) (r : PairLower) : (s.setLowerRes r).idec.flags = s.idec.flags := rfl
@[simp] theorem State.setLowerRes_gpd (s : State) (r : PairLower) : (s.setLowerRes r).gpd = s.gpd := rfl
@[simp] theorem State.setLowerRes_tsr (s : State) (r : PairLower) : (s.setLowerRes r).tsr = s.tsr := rfl
@[simp] theorem State.setLowerRes_exh (s : State) (r : PairLower) : (s.setLowerRes r).exh = s.exh := rfl
@[simp] theorem State.setUpperRes_params (s : State) (r : WordResult) : (s.setUpperRes r).params = s.params := rfl
@[simp] theorem State.setUpperRes_requests (s : State) (r : WordResult) : (s.setUpperRes r).requests = s.requests := rfl
@[simp] theorem State.setUpperRes_active (s : State) (r : WordResult) : (s.setUpperRes r).active = s.active := rfl
@[simp] theorem State.setUpperRes_bfxOut (s : State) (r : WordResult) : (s.setUpperRes r).bfxOut = s.bfxOut := rfl
@[simp] theorem State.setUpperRes_idec_lower (s : State) (r : WordResult) :
    (s.setUpperRes r).idec.lower = s.idec.lower := rfl
@[simp] theorem State.setUpperRes_idec_lowerAddr (s : State) (r : WordResult) :
    (s.setUpperRes r).idec.lowerAddr = s.idec.lowerAddr := rfl
@[simp] theorem State.setUpperRes_idec_upper (s : State) (r : WordResult) :
    (s.setUpperRes r).idec.upper = s.idec.upper := rfl
@[simp] theorem State.setUpperRes_idec_upperAddr (s : State) (r : WordResult) :
    (s.setUpperRes r).idec.upperAddr = s.idec.upperAddr := rfl
@[simp] theorem State.setUpperRes_idec_lowerRes (s : State) (r : WordResult) :
    (s.setUpperRes r).idec.lowerRes = s.idec.lowerRes := rfl
@[simp] theorem State.setUpperRes_idec_upperRes (s : State) (r : WordResult) :
    (s.setUpperRes r).idec.upperRes = some r := rfl
@[simp] theorem State.setUpperRes_idec_flags (s : State) (r : WordResult) :
    (s.setUpperRes r).idec.flags = s.idec.flags := rfl
@[simp] theorem State.setUpperRes_gpd (s : State) (r : WordResult) : (s.setUpperRes r).gpd = s.gpd := rfl
@[simp] theorem State.setUpperRes_tsr (s : State) (r : WordResult) : (s.setUpperRes r).tsr = s.tsr := rfl
@[simp] theorem State.setUpperRes_exh (s : State) (r : WordResult) : (s.setUpperRes r).exh = s.exh := rfl

/-! ### State: the end of a call -/

@[simp] theorem State.traceDone_params (s : State) : (s.traceDone).params = s.params := rfl
@[simp] theorem State.traceDone_requests (s : State) : (s.traceDone).requests = s.requests := rfl
@[simp] theorem State.traceDone_active (s : State) : (s.traceDone).active = .idle := rfl
@[simp] theorem State.traceDone_bfxOut (s : State) : (s.traceDone).bfxOut = s.bfxOut := rfl
@[simp] theorem State.traceDone_idec (s : State) : (s.traceDone).idec = s.idec := rfl
@[simp] theorem State.traceDone_gpd (s : State) : (s.traceDone).gpd = s.gpd := rfl
@[simp] theorem State.traceDone_tsr_stream (s : State) : (s.traceDone).tsr.stream = s.tsr.stream := rfl
@[simp] theorem State.traceDone_tsr_acc (s : State) : (s.traceDone).tsr.acc = s.tsr.acc := rfl
@[simp] theorem State.traceDone_tsr_cursor (s : State) : (s.traceDone).tsr.cursor = s.tsr.cursor := rfl
@[simp] theorem State.traceDone_tsr_status (s : State) : (s.traceDone).tsr.status = .done := rfl
@[simp] theorem State.traceDone_tsr_snapshots (s : State) : (s.traceDone).tsr.snapshots = s.tsr.snapshots := rfl
@[simp] theorem State.traceDone_exh (s : State) : (s.traceDone).exh = s.exh := rfl
@[simp] theorem State.raiseFatal_params (s : State) (d : TsrDiag) : (s.raiseFatal d).params = s.params := rfl
@[simp] theorem State.raiseFatal_requests (s : State) (d : TsrDiag) : (s.raiseFatal d).requests = s.requests := rfl
@[simp] theorem State.raiseFatal_active (s : State) (d : TsrDiag) : (s.raiseFatal d).active = .idle := rfl
@[simp] theorem State.raiseFatal_bfxOut (s : State) (d : TsrDiag) : (s.raiseFatal d).bfxOut = s.bfxOut := rfl
@[simp] theorem State.raiseFatal_idec (s : State) (d : TsrDiag) : (s.raiseFatal d).idec = s.idec := rfl
@[simp] theorem State.raiseFatal_gpd (s : State) (d : TsrDiag) : (s.raiseFatal d).gpd = s.gpd := rfl
@[simp] theorem State.raiseFatal_tsr_stream (s : State) (d : TsrDiag) : (s.raiseFatal d).tsr.stream = s.tsr.stream := rfl
@[simp] theorem State.raiseFatal_tsr_acc (s : State) (d : TsrDiag) : (s.raiseFatal d).tsr.acc = s.tsr.acc := rfl
@[simp] theorem State.raiseFatal_tsr_cursor (s : State) (d : TsrDiag) : (s.raiseFatal d).tsr.cursor = s.tsr.cursor := rfl
@[simp] theorem State.raiseFatal_tsr_status (s : State) (d : TsrDiag) : (s.raiseFatal d).tsr.status = .fatal d := rfl
@[simp] theorem State.raiseFatal_tsr_snapshots (s : State) (d : TsrDiag) :
    (s.raiseFatal d).tsr.snapshots = s.tsr.snapshots := rfl
@[simp] theorem State.raiseFatal_exh (s : State) (d : TsrDiag) : (s.raiseFatal d).exh = s.exh := rfl

/-! ### Gpd -/

@[simp] theorem Gpd.finish_dmem (g : Gpd) : (g.finish).dmem = g.dmem := rfl
@[simp] theorem Gpd.finish_base (g : Gpd) : (g.finish).base = g.base := rfl
@[simp] theorem Gpd.finish_limit (g : Gpd) : (g.finish).limit = g.limit := rfl
@[simp] theorem Gpd.finish_cursor (g : Gpd) : (g.finish).cursor = g.cursor := rfl
@[simp] theorem Gpd.finish_phase (g : Gpd) : (g.finish).phase = .tag := rfl
@[simp] theorem Gpd.finish_packet (g : Gpd) : (g.finish).packet = g.packet := rfl
@[simp] theorem Gpd.finish_status (g : Gpd) : (g.finish).status = .complete := rfl
@[simp] theorem Gpd.stopPartial_dmem (g : Gpd) (d : GpdDiag) : (g.stopPartial d).dmem = g.dmem := rfl
@[simp] theorem Gpd.stopPartial_base (g : Gpd) (d : GpdDiag) : (g.stopPartial d).base = g.base := rfl
@[simp] theorem Gpd.stopPartial_limit (g : Gpd) (d : GpdDiag) : (g.stopPartial d).limit = g.limit := rfl
@[simp] theorem Gpd.stopPartial_cursor (g : Gpd) (d : GpdDiag) : (g.stopPartial d).cursor = g.cursor := rfl
@[simp] theorem Gpd.stopPartial_phase (g : Gpd) (d : GpdDiag) : (g.stopPartial d).phase = g.phase := rfl
@[simp] theorem Gpd.stopPartial_packet (g : Gpd) (d : GpdDiag) : (g.stopPartial d).packet = g.packet := rfl
@[simp] theorem Gpd.stopPartial_status (g : Gpd) (d : GpdDiag) : (g.stopPartial d).status = .partialEnd d := rfl
@[simp] theorem Gpd.openPrimitive_dmem (g : Gpd) (t : GsTag) : (g.openPrimitive t).dmem = g.dmem := rfl
@[simp] theorem Gpd.openPrimitive_base (g : Gpd) (t : GsTag) : (g.openPrimitive t).base = g.base := rfl
@[simp] theorem Gpd.openPrimitive_limit (g : Gpd) (t : GsTag) : (g.openPrimitive t).limit = g.limit := rfl
@[simp] theorem Gpd.openPrimitive_cursor (g : Gpd) (t : GsTag) : (g.openPrimitive t).cursor = g.cursor + 16 := rfl
@[simp] theorem Gpd.openPrimitive_phase (g : Gpd) (t : GsTag) : (g.openPrimitive t).phase = g.phase := rfl
@[simp] theorem Gpd.openPrimitive_packet (g : Gpd) (t : GsTag) :
    (g.openPrimitive t).packet = g.packet ++ [{ tag := t, items := [] }] := rfl
@[simp] theorem Gpd.openPrimitive_status (g : Gpd) (t : GsTag) : (g.openPrimitive t).status = g.status := rfl
@[simp] theorem Gpd.addItem_dmem (g : Gpd) (x : GsItem) : (g.addItem x).dmem = g.dmem := rfl
@[simp] theorem Gpd.addItem_base (g : Gpd) (x : GsItem) : (g.addItem x).base = g.base := rfl
@[simp] theorem Gpd.addItem_limit (g : Gpd) (x : GsItem) : (g.addItem x).limit = g.limit := rfl
@[simp] theorem Gpd.addItem_cursor (g : Gpd) (x : GsItem) : (g.addItem x).cursor = g.cursor + 16 := rfl
@[simp] theorem Gpd.addItem_phase (g : Gpd) (x : GsItem) : (g.addItem x).phase = g.phase := rfl
@[simp] theorem Gpd.addItem_packet (g : Gpd) (x : GsItem) : (g.addItem x).packet = appendItem g.packet x := rfl
@[simp] theorem Gpd.addItem_status (g : Gpd) (x : GsItem) : (g.addItem x).status = g.status := rfl
@[simp] theorem Gpd.setPhase_dmem (g : Gpd) (p : Phase) : (g.setPhase p).dmem = g.dmem := rfl
@[simp] theorem Gpd.setPhase_base (g : Gpd) (p : Phase) : (g.setPhase p).base = g.base := rfl
@[simp] theorem Gpd.setPhase_limit (g : Gpd) (p : Phase) : (g.setPhase p).limit = g.limit := rfl
@[simp] theorem Gpd.setPhase_cursor (g : Gpd) (p : Phase) : (g.setPhase p).cursor = g.cursor := rfl
@[simp] theorem Gpd.setPhase_phase (g : Gpd) (p : Phase) : (g.setPhase p).phase = p := rfl
@[simp] theorem Gpd.setPhase_packet (g : Gpd) (p : Phase) : (g.setPhase p).packet = g.packet := rfl
@[simp] theorem Gpd.setPhase_status (g : Gpd) (p : Phase) : (g.setPhase p).status = g.status := rfl

/-! ### Exh -/

@[simp] theorem Exh.raise_records (e : Exh) (d : ExhDiag) : (e.raise d).records = e.records := rfl
@[simp] theorem Exh.raise_prevPc (e : Exh) (d : ExhDiag) : (e.raise d).prevPc = e.prevPc := rfl
@[simp] theorem Exh.raise_fault (e : Exh) (d : ExhDiag) : (e.raise d).fault = some d := rfl
@[simp] theorem Exh.update_records (e : Exh) (k : Nat) (f : Record → Record) :
    (e.update k f).records = Sparse.set Record.reset k (f (e.record k)) e.records := rfl
@[simp] theorem Exh.update_prevPc (e : Exh) (k : Nat) (f : Record → Record) : (e.update k f).prevPc = e.prevPc := rfl
@[simp] theorem Exh.update_fault (e : Exh) (k : Nat) (f : Record → Record) : (e.update k f).fault = e.fault := rfl

end Sys2Proof.Machine
end

