-- ==== Sys2Proof/Laws/Exec.lean ====
section
/-! SUPPORT. What a meaning can do, said once: an upper word's row writes the upper result wire, a lower word's row the
lower one, a packet TSR and EXH. -/

namespace Sys2Proof.Machine

/-- What the meaning of an upper-word row does. -/
theorem exec_upper {p : Params} {i : Instr} (h : i.slot p = .upper) (s : State) :
    ∃ dest ops, exec i s = .next (s.putUpper i.mnemonic dest ops) := by
  cases i <;> first | exact ⟨_, _, rfl⟩ | exact absurd h (by decide) | (cases h)

/-- What the meaning of a lower-word row does. -/
theorem exec_lower {p : Params} {i : Instr} (h : i.slot p = .lower) (s : State) :
    ∃ dest ops, exec i s = .next (s.putLower i.mnemonic dest ops) := by
  cases i <;> first | exact ⟨_, _, rfl⟩ | exact absurd h (by decide) | (cases h)

/-- What the meaning of a packet does when it answers: `PUSHSNAPSHOT` commits, the others change the accumulator. -/
theorem exec_packet {p : Params} {i : Instr} (h : i.slot p = .packet) {s t : State} (ht : exec i s = .next t) :
    (i = .pushsnapshot ∧ ∃ e, t = (s.appendSnapshot.setExh e).clearPending
        ∧ (if s.params.hasExh then s.exh.onCommit s.params s.tsr.acc s.tsr.snapshots.length = some e else e = s.exh))
      ∨ (∃ bs, i = .setregisters bs ∧ t = s.setAcc { s.tsr.acc with regs := Image.ofBytes bs, regsValid := true })
      ∨ (∃ bs, i = .setmemory bs ∧ t = s.setAcc { s.tsr.acc with dmem := Image.ofBytes bs, dmemValid := true })
      ∨ (∃ bs, i = .setinstructions bs ∧ t = s.setAcc { s.tsr.acc with imem := Image.ofBytes bs, imemValid := true })
      ∨ (∃ a z, i = .loadop a z ∧ t = s.setAcc { s.tsr.acc with pendingLoad := some ⟨a, z⟩ })
      ∨ (∃ a z, i = .storeop a z ∧ t = s.setAcc { s.tsr.acc with pendingStore := some ⟨a, z⟩ }) := by
  cases i with
  | pushsnapshot =>
    refine .inl ⟨rfl, ?_⟩
    simp only [exec, execPushsnapshot] at ht
    split at ht
    · next hx =>
      split at ht
      · next e he => exact ⟨e, by simpa using ht.symm, by simpa [hx] using he⟩
      · simp at ht
    · next hx => exact ⟨s.exh, (by simpa using ht.symm : t = s.appendSnapshot.clearPending), by simp [hx]⟩
  | setregisters bs => exact .inr (.inl ⟨bs, rfl, by simpa [exec, execSetregisters] using ht.symm⟩)
  | setmemory bs => exact .inr (.inr (.inl ⟨bs, rfl, by simpa [exec, execSetmemory] using ht.symm⟩))
  | setinstructions bs => exact .inr (.inr (.inr (.inl ⟨bs, rfl, by simpa [exec, execSetinstructions] using ht.symm⟩)))
  | loadop a z => exact .inr (.inr (.inr (.inr (.inl ⟨a, z, rfl, by simpa [exec, execLoadop] using ht.symm⟩))))
  | storeop a z => exact .inr (.inr (.inr (.inr (.inr ⟨a, z, rfl, by simpa [exec, execStoreop] using ht.symm⟩))))
  | _ => cases h

/-- The rows of the upper tables are upper words. -/
theorem upper_tables_slot (p : Params) (w : Word) :
    ∀ table ∈ [upperTable, fdTable00, fdTable01, fdTable10, fdTable11], ∀ row ∈ table, (row.2 w).slot p = .upper := by
  intro table ht row hr
  simp only [List.mem_cons, List.not_mem_nil, or_false] at ht
  rcases ht with rfl | rfl | rfl | rfl | rfl <;>
  · simp only [upperTable, fdTable00, fdTable01, fdTable10, fdTable11, List.mem_cons, List.not_mem_nil, or_false] at hr
    repeat' (rcases hr with rfl | hr; · rfl)

/-- The rows of the lower tables are lower words. -/
theorem lower_tables_slot (p : Params) (w : Word) :
    ∀ table ∈ [lowerTable, lowerOpTable, t3Table00, t3Table01, t3Table10, t3Table11], ∀ row ∈ table,
      (row.2 w).slot p = .lower := by
  intro table ht row hr
  simp only [List.mem_cons, List.not_mem_nil, or_false] at ht
  rcases ht with rfl | rfl | rfl | rfl | rfl | rfl <;>
  · simp only [lowerTable, lowerOpTable, t3Table00, t3Table01, t3Table10, t3Table11, List.mem_cons, List.not_mem_nil,
      or_false] at hr
    repeat' (rcases hr with rfl | hr; · rfl)

/-- The table an upper word is looked up in. -/
theorem decodeUpper_ok {w : Word} {i : Instr} (h : decodeUpper w = .ok i) :
    ∃ table ∈ [upperTable, fdTable00, fdTable01, fdTable10, fdTable11], ∃ row ∈ table, i = row.2 w := by
  unfold decodeUpper at h
  split at h
  · next table hl =>
    obtain ⟨mk, hmk, rfl⟩ := selectRow_ok h
    obtain ⟨row, hr, rfl⟩ := lookup_mem hmk
    obtain ⟨link, hlink, rfl⟩ := lookup_mem hl
    exact ⟨link.2, by fin_cases hlink <;> simp, row, hr, rfl⟩
  · obtain ⟨mk, hmk, rfl⟩ := selectRow_ok h
    obtain ⟨row, hr, rfl⟩ := lookup_mem hmk
    exact ⟨upperTable, by simp, row, hr, rfl⟩

/-- The table a lower word is looked up in. -/
theorem decodeLower_ok {w : Word} {i : Instr} (h : decodeLower w = .ok i) :
    ∃ table ∈ [lowerTable, lowerOpTable, t3Table00, t3Table01, t3Table10, t3Table11], ∃ row ∈ table, i = row.2 w := by
  rw [decodeLower_eq] at h
  split at h
  · unfold decodeLowerOp at h
    split at h
    · next table hl =>
      obtain ⟨mk, hmk, rfl⟩ := selectRow_ok h
      obtain ⟨row, hr, rfl⟩ := lookup_mem hmk
      obtain ⟨link, hlink, rfl⟩ := lookup_mem hl
      exact ⟨link.2, by fin_cases hlink <;> simp, row, hr, rfl⟩
    · obtain ⟨mk, hmk, rfl⟩ := selectRow_ok h
      obtain ⟨row, hr, rfl⟩ := lookup_mem hmk
      exact ⟨lowerOpTable, by simp, row, hr, rfl⟩
  · obtain ⟨mk, hmk, rfl⟩ := selectRow_ok h
    obtain ⟨row, hr, rfl⟩ := lookup_mem hmk
    exact ⟨lowerTable, by simp, row, hr, rfl⟩

/-- An instruction read from an upper word is an upper row. -/
theorem decodeUpper_slot {w : Word} {i : Instr} (p : Params) (h : decodeUpper w = .ok i) : i.slot p = .upper := by
  obtain ⟨table, ht, row, hr, rfl⟩ := decodeUpper_ok h
  exact upper_tables_slot p w table ht row hr

/-- An instruction read from a lower word is a lower row. -/
theorem decodeLower_slot {w : Word} {i : Instr} (p : Params) (h : decodeLower w = .ok i) : i.slot p = .lower := by
  obtain ⟨table, ht, row, hr, rfl⟩ := decodeLower_ok h
  exact lower_tables_slot p w table ht row hr

end Sys2Proof.Machine
end

