-- ==== Sys2Proof/Laws/Sparse.lean ====
section
/-! SUPPORT. The laws of sparse maps and images: read after write, the canonical form kept by every operation, and an image
read back from its payload. -/

namespace Sys2Proof.Machine

section Sparse

variable {α : Type} [DecidableEq α] {d : α}

omit [DecidableEq α] in
@[simp] theorem Sparse.get_nil (key : Nat) : Sparse.get d [] key = d := rfl

theorem Sparse.wf_cons {lo hi k : Nat} {v : α} {rest : Sparse α} :
    Sparse.wf d lo hi ((k, v) :: rest) = true ↔ lo ≤ k ∧ k < hi ∧ v ≠ d ∧ Sparse.wf d (k + 1) hi rest = true := by
  simp [Sparse.wf, and_assoc]

theorem Sparse.wf_mono {lo lo' hi : Nat} {m : Sparse α} (h : lo' ≤ lo) (hm : Sparse.wf d lo hi m = true) :
    Sparse.wf d lo' hi m = true := by
  cases m with
  | nil => rfl
  | cons kv rest =>
    rw [Sparse.wf_cons] at *
    exact ⟨by omega, hm.2⟩

/-- Below the first key every key reads as the default. -/
theorem Sparse.get_of_lt {lo hi key : Nat} {m : Sparse α} (hm : Sparse.wf d lo hi m = true) (h : key < lo) :
    Sparse.get d m key = d := by
  induction m generalizing lo with
  | nil => rfl
  | cons kv rest ih =>
    rw [Sparse.wf_cons] at hm
    rw [Sparse.get, if_neg (by omega)]
    exact ih hm.2.2.2 (by omega)

/-- From the upper bound on every key reads as the default. -/
theorem Sparse.get_of_ge {lo hi key : Nat} {m : Sparse α} (hm : Sparse.wf d lo hi m = true) (h : hi ≤ key) :
    Sparse.get d m key = d := by
  induction m generalizing lo with
  | nil => rfl
  | cons kv rest ih =>
    rw [Sparse.wf_cons] at hm
    rw [Sparse.get, if_neg (by omega)]
    exact ih hm.2.2.2

/-- A read after a write to the same key gives the value written. -/
theorem Sparse.get_set_same {lo hi key : Nat} {v : α} {m : Sparse α} (hm : Sparse.wf d lo hi m = true) :
    Sparse.get d (Sparse.set d key v m) key = v := by
  induction m generalizing lo with
  | nil =>
    by_cases hv : v = d <;> simp [Sparse.set, Sparse.get, hv]
  | cons kv rest ih =>
    obtain ⟨k, u⟩ := kv
    rw [Sparse.wf_cons] at hm
    rcases Nat.lt_trichotomy key k with h | h | h
    · by_cases hv : v = d
      · subst hv
        simp only [Sparse.set, if_pos h, if_true, Sparse.get, if_neg (show key ≠ k by omega)]
        exact Sparse.get_of_lt hm.2.2.2 (by omega)
      · simp [Sparse.set, Sparse.get, h, hv]
    · subst h
      by_cases hv : v = d
      · subst hv
        simp only [Sparse.set, lt_irrefl, if_false, if_true]
        exact Sparse.get_of_lt hm.2.2.2 (by omega)
      · simp [Sparse.set, Sparse.get, hv]
    · have h1 : ¬ key < k := by omega
      have h2 : key ≠ k := by omega
      simp only [Sparse.set, h1, h2, if_false, Sparse.get]
      exact ih hm.2.2.2

/-- A write leaves every other key alone. -/
theorem Sparse.get_set_other {key key' : Nat} {v : α} {m : Sparse α} (h : key' ≠ key) :
    Sparse.get d (Sparse.set d key v m) key' = Sparse.get d m key' := by
  induction m with
  | nil => by_cases hv : v = d <;> simp [Sparse.set, Sparse.get, hv, h]
  | cons kv rest ih =>
    obtain ⟨k, u⟩ := kv
    rcases Nat.lt_trichotomy key k with h' | h' | h'
    · by_cases hv : v = d <;> simp [Sparse.set, Sparse.get, h', hv, h]
    · subst h'
      by_cases hv : v = d <;> simp [Sparse.set, Sparse.get, hv, h]
    · have h1 : ¬ key < k := by omega
      have h2 : key ≠ k := by omega
      simp only [Sparse.set, h1, h2, if_false, Sparse.get]
      rw [ih]

/-- A write keeps the canonical form. -/
theorem Sparse.wf_set {lo hi key : Nat} {v : α} {m : Sparse α} (hm : Sparse.wf d lo hi m = true) (h1 : lo ≤ key)
    (h2 : key < hi) : Sparse.wf d lo hi (Sparse.set d key v m) = true := by
  induction m generalizing lo with
  | nil =>
    by_cases hv : v = d
    · simp [Sparse.set, hv, Sparse.wf]
    · simp [Sparse.set, hv, Sparse.wf, h1, h2]
  | cons kv rest ih =>
    obtain ⟨k, u⟩ := kv
    have hm' := hm
    rw [Sparse.wf_cons] at hm'
    obtain ⟨a, b, c, e⟩ := hm'
    rcases Nat.lt_trichotomy key k with h | h | h
    · by_cases hv : v = d
      · simpa [Sparse.set, h, hv] using hm
      · simp only [Sparse.set, if_pos h, if_neg hv]
        rw [Sparse.wf_cons, Sparse.wf_cons]
        exact ⟨h1, h2, hv, by omega, b, c, e⟩
    · subst h
      by_cases hv : v = d
      · simp only [Sparse.set, lt_irrefl, if_false, if_true, if_pos hv]
        exact Sparse.wf_mono (by omega) e
      · simp only [Sparse.set, lt_irrefl, if_false, if_true, if_neg hv]
        rw [Sparse.wf_cons]
        exact ⟨a, b, hv, e⟩
    · have h3 : ¬ key < k := by omega
      have h4 : key ≠ k := by omega
      simp only [Sparse.set, h3, h4, if_false]
      rw [Sparse.wf_cons]
      exact ⟨a, b, c, ih e (by omega)⟩

/-- Equal maps are equal lists. -/
theorem Sparse.ext_of_wf {lo hi : Nat} {m m' : Sparse α} (hm : Sparse.wf d lo hi m = true)
    (hm' : Sparse.wf d lo hi m' = true) (h : ∀ key, Sparse.get d m key = Sparse.get d m' key) : m = m' := by
  induction m generalizing lo m' with
  | nil =>
    cases m' with
    | nil => rfl
    | cons kv rest =>
      obtain ⟨k, u⟩ := kv
      rw [Sparse.wf_cons] at hm'
      have := h k
      simp only [Sparse.get, if_true] at this
      exact absurd this.symm hm'.2.2.1
  | cons kv rest ih =>
    obtain ⟨k, u⟩ := kv
    rw [Sparse.wf_cons] at hm
    cases m' with
    | nil =>
      have := h k
      simp only [Sparse.get, if_true] at this
      exact absurd this hm.2.2.1
    | cons kv' rest' =>
      obtain ⟨k', u'⟩ := kv'
      rw [Sparse.wf_cons] at hm'
      have hk : k = k' := by
        rcases Nat.lt_trichotomy k k' with hlt | heq | hgt
        · have := h k
          simp only [Sparse.get, if_true, if_neg (show k ≠ k' by omega)] at this
          rw [Sparse.get_of_lt hm'.2.2.2 (by omega)] at this
          exact absurd this hm.2.2.1
        · exact heq
        · have := h k'
          simp only [Sparse.get, if_true, if_neg (show k' ≠ k by omega)] at this
          rw [Sparse.get_of_lt hm.2.2.2 (by omega)] at this
          exact absurd this.symm hm'.2.2.1
      subst hk
      have hu : u = u' := by simpa [Sparse.get] using h k
      subst hu
      congr 1
      refine ih hm.2.2.2 hm'.2.2.2 fun key => ?_
      by_cases hkey : key = k
      · subst hkey
        rw [Sparse.get_of_lt hm.2.2.2 (by omega), Sparse.get_of_lt hm'.2.2.2 (by omega)]
      · simpa [Sparse.get, hkey] using h key

/-- What a canonical map lists is what it reads as. -/
theorem Sparse.get_of_mem {lo hi k : Nat} {v : α} {m : Sparse α} (hm : Sparse.wf d lo hi m = true) (h : (k, v) ∈ m) :
    Sparse.get d m k = v ∧ lo ≤ k ∧ k < hi := by
  induction m generalizing lo with
  | nil => simp at h
  | cons kv rest ih =>
    obtain ⟨k', v'⟩ := kv
    rw [Sparse.wf_cons] at hm
    rcases List.mem_cons.mp h with h | h
    · obtain ⟨rfl, rfl⟩ := Prod.mk.inj h
      exact ⟨by simp [Sparse.get], hm.1, hm.2.1⟩
    · obtain ⟨h1, h2, h3⟩ := ih hm.2.2.2 h
      exact ⟨by rw [Sparse.get, if_neg (by omega)]; exact h1, by omega, h3⟩

/-- A write changes a sum over the map by the entry it replaces, for any measure that gives the default 0. -/
theorem Sparse.sum_set {lo hi key : Nat} {v : α} {m : Sparse α} (f : α → Nat) (hf : f d = 0)
    (hm : Sparse.wf d lo hi m = true) :
    ((Sparse.set d key v m).map fun kv => f kv.2).sum + f (Sparse.get d m key) = (m.map fun kv => f kv.2).sum + f v := by
  induction m generalizing lo with
  | nil => by_cases hv : v = d <;> simp [Sparse.set, hv, hf]
  | cons kv rest ih =>
    obtain ⟨k, u⟩ := kv
    rw [Sparse.wf_cons] at hm
    rcases Nat.lt_trichotomy key k with h | h | h
    · have hg : Sparse.get d ((k, u) :: rest) key = d := by
        rw [Sparse.get, if_neg (by omega)]; exact Sparse.get_of_lt hm.2.2.2 (by omega)
      rw [hg, hf]
      by_cases hv : v = d
      · simp [Sparse.set, h, hv, hf]
      · simp [Sparse.set, h, hv]; omega
    · subst h
      by_cases hv : v = d
      · simp [Sparse.set, Sparse.get, hv, hf]; omega
      · simp [Sparse.set, Sparse.get, hv]; omega
    · have h1 : ¬ key < k := by omega
      have h2 : key ≠ k := by omega
      have := ih hm.2.2.2
      simp only [Sparse.set, h1, h2, if_false, Sparse.get, List.map_cons, List.sum_cons]
      omega

end Sparse

/-- `Sparse.total` as a sum over the list. -/
theorem Sparse.total_eq_sum (m : Sparse Nat) : Sparse.total m = (m.map fun kv => kv.2).sum := by
  induction m with
  | nil => rfl
  | cons kv rest ih => simp [Sparse.total, ih]

/-- A write to a count map changes its total by the entry it replaces. -/
theorem Sparse.total_set {lo hi key v : Nat} {m : Sparse Nat} (hm : Sparse.wf 0 lo hi m = true) :
    Sparse.total (Sparse.set 0 key v m) + Sparse.get 0 m key = Sparse.total m + v := by
  rw [Sparse.total_eq_sum, Sparse.total_eq_sum]
  exact Sparse.sum_set id rfl hm

/-! ### Images -/

/-- A payload placed at `at_` fits a size that holds it. -/
theorem Image.wf_ofBytesFrom (payload : List Byte) {at_ lo size : Nat} (h : lo ≤ at_) (hs : at_ + payload.length ≤ size) :
    Sparse.wf unlistedByte lo size (Image.ofBytesFrom at_ payload) = true := by
  induction payload generalizing at_ lo with
  | nil => rfl
  | cons b rest ih =>
    simp only [List.length_cons] at hs
    by_cases hb : b = unlistedByte
    · simp only [Image.ofBytesFrom, if_pos hb]
      exact ih (by omega) (by omega)
    · simp only [Image.ofBytesFrom, if_neg hb]
      rw [Sparse.wf_cons]
      exact ⟨h, by omega, hb, ih (Nat.le_refl _) (by omega)⟩

/-- A payload's image is canonical. -/
theorem Image.wf_ofBytes {payload : List Byte} {size : Nat} (h : payload.length ≤ size) :
    Image.wf size (Image.ofBytes payload) = true := Image.wf_ofBytesFrom payload (Nat.le_refl 0) (by omega)

theorem Image.byte_ofBytesFrom (payload : List Byte) (at_ a : Nat) :
    Image.byte (Image.ofBytesFrom at_ payload) a = if at_ ≤ a then payload.getD (a - at_) 0 else 0 := by
  induction payload generalizing at_ with
  | nil => simp [Image.ofBytesFrom, Image.byte]
  | cons b rest ih =>
    have key : Image.byte (Image.ofBytesFrom at_ (b :: rest)) a
        = if a = at_ then b else Image.byte (Image.ofBytesFrom (at_ + 1) rest) a := by
      by_cases hb : b = unlistedByte
      · subst hb
        by_cases ha : a = at_
        · subst ha
          simp only [Image.ofBytesFrom, if_true, ih]
          simp
        · simp [Image.ofBytesFrom, ha]
      · simp only [Image.ofBytesFrom, if_neg hb, Image.byte, Sparse.get]
    rw [key, ih]
    rcases Nat.lt_trichotomy a at_ with h | h | h
    · rw [if_neg (by omega), if_neg (by omega), if_neg (by omega)]
    · subst h; simp
    · rw [if_neg (by omega), if_pos (by omega), if_pos (by omega)]
      obtain ⟨n, rfl⟩ : ∃ n, a = at_ + 1 + n := ⟨a - at_ - 1, by omega⟩
      rw [show at_ + 1 + n - (at_ + 1) = n by omega, show at_ + 1 + n - at_ = n + 1 by omega]
      rfl

/-- An image reads back its payload. -/
theorem Image.byte_ofBytes (payload : List Byte) (a : Nat) :
    Image.byte (Image.ofBytes payload) a = payload.getD a 0 := by
  rw [Image.ofBytes, Image.byte_ofBytesFrom]; simp

@[simp] theorem Image.length_bytesFrom (img : Image) (a n : Nat) : (Image.bytesFrom img a n).length = n := by
  induction n generalizing a with
  | zero => rfl
  | succ n ih => simp [Image.bytesFrom, ih]

theorem Image.getElem?_bytesFrom (img : Image) (a n i : Nat) :
    (Image.bytesFrom img a n)[i]? = if i < n then some (Image.byte img (a + i)) else none := by
  induction n generalizing a i with
  | zero => simp [Image.bytesFrom]
  | succ n ih =>
    cases i with
    | zero => simp [Image.bytesFrom]
    | succ i =>
      simp only [Image.bytesFrom, List.getElem?_cons_succ, ih, Nat.add_lt_add_iff_right]
      rw [show a + 1 + i = a + (i + 1) by omega]

/-- Two images that agree on a range give the same bytes there. -/
theorem Image.bytesFrom_congr {img img' : Image} {a n : Nat}
    (h : ∀ x, a ≤ x → x < a + n → Image.byte img x = Image.byte img' x) :
    Image.bytesFrom img a n = Image.bytesFrom img' a n := by
  induction n generalizing a with
  | zero => rfl
  | succ n ih =>
    simp only [Image.bytesFrom]
    rw [h a (Nat.le_refl _) (by omega), ih fun x h1 h2 => h x (by omega) (by omega)]

/-- The bytes of a payload's image are the payload's. -/
theorem Image.bytesFrom_ofBytes {payload : List Byte} {a n : Nat} (h : a + n ≤ payload.length) :
    Image.bytesFrom (Image.ofBytes payload) a n = (payload.drop a).take n := by
  refine List.ext_getElem? fun i => ?_
  rw [Image.getElem?_bytesFrom, List.getElem?_take, List.getElem?_drop]
  split
  · rw [Image.byte_ofBytes, List.getD_eq_getElem?_getD, List.getElem?_eq_getElem (by omega)]; rfl
  · rfl

/-- What `memRead` can answer: the bytes, exactly when the range lies inside the image. -/
theorem memRead_eq_some {img : Image} {size a n : Nat} {bytes : List Byte} :
    memRead img size a n = some bytes ↔ a + n ≤ size ∧ bytes = Image.bytesFrom img a n := by
  unfold memRead
  split
  · simp [*, eq_comm]
  · simp [*]

end Sys2Proof.Machine
end

