-- ==== Sys2Proof/Laws/Exh.lean ====
section
/-! SUPPORT. What EXH's update does to one record, and that it keeps EXH's invariant. -/

namespace Sys2Proof.Machine

/-- An update reads back under its own index; every other record is left alone. -/
theorem Exh.record_update {e : Exh} (h : Sparse.wf Record.reset 0 nRecords e.records = true) (k k' : Nat)
    (f : Record → Record) : (e.update k f).record k' = if k' = k then f (e.record k) else e.record k' := by
  split
  · next hk =>
    subst hk
    exact Sparse.get_set_same h
  · next hk => exact Sparse.get_set_other hk

/-- An update inside the table keeps the records canonical. -/
theorem Exh.update_wf {e : Exh} (h : Sparse.wf Record.reset 0 nRecords e.records = true) {k : Nat} (hk : k < nRecords)
    (f : Record → Record) : Sparse.wf Record.reset 0 nRecords (e.update k f).records = true :=
  Sparse.wf_set h (Nat.zero_le k) hk

/-- The sum of a measure over all records after an update. -/
theorem Exh.sum_update {e : Exh} (h : Sparse.wf Record.reset 0 nRecords e.records = true) (k : Nat) (f : Record → Record)
    (m : Record → Nat) (hm : m Record.reset = 0) :
    ((e.update k f).records.map fun kr => m kr.2).sum + m (e.record k)
      = (e.records.map fun kr => m kr.2).sum + m (f (e.record k)) := Sparse.sum_set m hm h

theorem recordIndex_lt {pc : Word} (h : pc.toNat < progBytes) : recordIndex pc < nRecords := by
  simp only [recordIndex, progBytes, nRecords] at *; omega

/-- The count under a key after one increment. -/
theorem get_increment {m : Sparse Nat} (h : Sparse.wf 0 0 progBytes m = true) (pc : Word) (q : Nat) :
    Sparse.get 0 (increment pc m) q = Sparse.get 0 m q + if q = pc.toNat then 1 else 0 := by
  unfold increment
  split
  · next hq => subst hq; exact Sparse.get_set_same h
  · next hq => simpa using Sparse.get_set_other hq

theorem increment_wf {m : Sparse Nat} (h : Sparse.wf 0 0 progBytes m = true) {pc : Word} (hp : pc.toNat < progBytes) :
    Sparse.wf 0 0 progBytes (increment pc m) = true := Sparse.wf_set h (Nat.zero_le _) hp

theorem total_increment {m : Sparse Nat} (h : Sparse.wf 0 0 progBytes m = true) (pc : Word) :
    Sparse.total (increment pc m) = Sparse.total m + 1 := by
  have := Sparse.total_set (key := pc.toNat) (v := Sparse.get 0 m pc.toNat + 1) h
  unfold increment
  omega

/-- Whether counting `pc` counts an edge, and from where (R495, R496). -/
def Exh.edgeSource (e : Exh) (pc : Word) : Option Word := e.prevPc.filter fun p => decide (isEdge p pc)

/-- One record after counting a pc (R492): its own execution, its departures to `pc` and its arrivals. -/
theorem Exh.record_countPc {e : Exh} (h : Sparse.wf Record.reset 0 nRecords e.records = true) {pc : Word}
    (hpc : pc.toNat < progBytes) (hprev : ∀ p ∈ e.prevPc, p.toNat < progBytes) (k : Nat) :
    (e.countPc pc).record k =
      { executed := if k = recordIndex pc then true else (e.record k).executed
        timesExecuted := (e.record k).timesExecuted + if k = recordIndex pc then 1 else 0
        branchTo := if (e.edgeSource pc).map recordIndex = some k then increment pc (e.record k).branchTo
          else (e.record k).branchTo
        branchFrom := match e.edgeSource pc with
          | some p => if k = recordIndex pc then increment p (e.record k).branchFrom else (e.record k).branchFrom
          | none => (e.record k).branchFrom } := by
  have h1 := Exh.update_wf h (recordIndex_lt hpc) Record.count
  have base : (e.update (recordIndex pc) Record.count).record k
      = { (e.record k) with
          executed := if k = recordIndex pc then true else (e.record k).executed
          timesExecuted := (e.record k).timesExecuted + if k = recordIndex pc then 1 else 0 } := by
    rw [Exh.record_update h]
    split
    · next hk => subst hk; simp [Record.count]
    · next hk => simp
  unfold Exh.countPc Exh.edgeSource
  cases hp : e.prevPc with
  | none => exact base
  | some p =>
    by_cases he : isEdge p pc
    · have hpp := recordIndex_lt (hprev p (by simp [hp]))
      have h2 := Exh.update_wf h1 hpp (fun r => { r with branchTo := increment pc r.branchTo })
      simp only [Option.filter, decide_eq_true he, if_pos he, if_true, Option.map_some, Option.some.injEq]
      show (Exh.countEdge _ p pc).record k = _
      unfold Exh.countEdge
      rw [Exh.record_update h2, Exh.record_update h1, Exh.record_update h1, base, Exh.record_update h, Exh.record_update h]
      by_cases hk : k = recordIndex pc
      · subst hk
        by_cases hk' : recordIndex p = recordIndex pc
        · simp [hk', Record.count]
        · simp [hk', Ne.symm hk', Record.count]
      · by_cases hk' : recordIndex p = k
        · subst hk'; simp [hk]
        · simp [hk, hk', Ne.symm hk']
    · simp only [Option.filter, he, if_false, decide_false, Bool.false_eq_true, Option.map_none, reduceCtorEq]
      exact base

/-- Counting a pc sets the previous pc and leaves the fault mark alone (R492). -/
@[simp] theorem Exh.countPc_prevPc (e : Exh) (pc : Word) : (e.countPc pc).prevPc = some pc := rfl

@[simp] theorem Exh.countPc_fault (e : Exh) (pc : Word) : (e.countPc pc).fault = e.fault := by
  unfold Exh.countPc Exh.countEdge
  cases e.prevPc with
  | none => rfl
  | some p => by_cases he : isEdge p pc <;> simp [he]

theorem Exh.countPc_records_wf {e : Exh} (h : Sparse.wf Record.reset 0 nRecords e.records = true) {pc : Word}
    (hpc : pc.toNat < progBytes) (hprev : ∀ p ∈ e.prevPc, p.toNat < progBytes) :
    Sparse.wf Record.reset 0 nRecords (e.countPc pc).records = true := by
  have h1 := Exh.update_wf h (recordIndex_lt hpc) Record.count
  unfold Exh.countPc
  cases hp : e.prevPc with
  | none => exact h1
  | some p =>
    have hpp := recordIndex_lt (hprev p (by simp [hp]))
    by_cases he : isEdge p pc
    · simp only [if_pos he]
      exact Exh.update_wf (Exh.update_wf h1 hpp _) (recordIndex_lt hpc) _
    · simp only [if_neg he]
      exact h1

/-- Counting a pc adds the same to both edge totals (R502). -/
theorem Exh.edges_countPc {e : Exh} (hw : e.Wf) {pc : Word} (hpc : pc.toNat < progBytes) :
    (e.countPc pc).edgesOut = (e.countPc pc).edgesIn := by
  obtain ⟨h, hr, hs, hprev⟩ := hw
  have h1 := Exh.update_wf h (recordIndex_lt hpc) Record.count
  have o1 := Exh.sum_update h (recordIndex pc) Record.count (fun r => Sparse.total r.branchTo) rfl
  have i1 := Exh.sum_update h (recordIndex pc) Record.count (fun r => Sparse.total r.branchFrom) rfl
  have c1 : (e.update (recordIndex pc) Record.count).edgesOut = (e.update (recordIndex pc) Record.count).edgesIn := by
    unfold Exh.edgesOut Exh.edgesIn at *
    simp only [Record.count] at o1 i1 ⊢
    omega
  unfold Exh.countPc
  cases hp : e.prevPc with
  | none => exact c1
  | some p =>
    have hpl := hprev p (by simp [hp])
    have hpp := recordIndex_lt hpl
    by_cases he : isEdge p pc
    · simp only [if_pos he]
      show (Exh.countEdge _ p pc).edgesOut = (Exh.countEdge _ p pc).edgesIn
      have rec1 : ∀ k, k < nRecords → Sparse.wf 0 0 progBytes ((e.update (recordIndex pc) Record.count).record k).branchTo = true
          ∧ Sparse.wf 0 0 progBytes ((e.update (recordIndex pc) Record.count).record k).branchFrom = true := by
        intro k hk
        rw [Exh.record_update h]
        have := (hr k hk).1
        split
        · next hkk => subst hkk; exact ⟨this.2.1, this.2.2.1⟩
        · exact ⟨this.2.1, this.2.2.1⟩
      have h2 := Exh.update_wf h1 hpp (fun r => { r with branchTo := increment pc r.branchTo })
      have o2 := Exh.sum_update h1 (recordIndex p) (fun r => { r with branchTo := increment pc r.branchTo })
        (fun r => Sparse.total r.branchTo) rfl
      have i2 := Exh.sum_update h1 (recordIndex p) (fun r => { r with branchTo := increment pc r.branchTo })
        (fun r => Sparse.total r.branchFrom) rfl
      have o3 := Exh.sum_update h2 (recordIndex pc) (fun r => { r with branchFrom := increment p r.branchFrom })
        (fun r => Sparse.total r.branchTo) rfl
      have i3 := Exh.sum_update h2 (recordIndex pc) (fun r => { r with branchFrom := increment p r.branchFrom })
        (fun r => Sparse.total r.branchFrom) rfl
      have t2 := total_increment (rec1 _ hpp).1 pc
      have t3 : Sparse.total (increment p (((e.update (recordIndex pc) Record.count).update (recordIndex p)
          (fun r => { r with branchTo := increment pc r.branchTo })).record (recordIndex pc)).branchFrom)
          = Sparse.total (((e.update (recordIndex pc) Record.count).update (recordIndex p)
          (fun r => { r with branchTo := increment pc r.branchTo })).record (recordIndex pc)).branchFrom + 1 := by
        refine total_increment ?_ p
        rw [Exh.record_update h1]
        split
        · exact (rec1 _ hpp).2
        · exact (rec1 _ (recordIndex_lt hpc)).2
      unfold Exh.countEdge
      unfold Exh.edgesOut Exh.edgesIn at *
      simp only at o2 i2 o3 i3
      omega
    · simp only [if_neg he]
      exact c1

/-- Counting a pc inside the program image keeps EXH's invariant. -/
theorem Exh.countPc_wf {e : Exh} (hw : e.Wf) {pc : Word} (hpc : pc.toNat < progBytes) : (e.countPc pc).Wf := by
  have hedges := Exh.edges_countPc hw hpc
  obtain ⟨h, hr, hs, hprev⟩ := hw
  refine ⟨Exh.countPc_records_wf h hpc hprev, fun k hk => ?_, hedges, by simpa using hpc⟩
  obtain ⟨⟨a, b, c, d⟩, f⟩ := hr k hk
  rw [Exh.record_countPc h hpc hprev]
  have hopen : (e.countPc pc).openEnd k = if recordIndex pc = k then 1 else 0 := rfl
  rw [hopen]
  unfold Exh.edgeSource
  unfold Exh.openEnd at f
  cases hp : e.prevPc with
  | none =>
    simp only [hp, Option.filter_none, Option.map_none] at f ⊢
    refine ⟨⟨?_, by simpa using b, by simpa using c, ?_⟩, ?_⟩
    · by_cases hk' : k = recordIndex pc <;> simp [hk', a]
    · simp only; omega
    · simp only [reduceCtorEq, if_false]
      by_cases hk' : k = recordIndex pc
      · simp [hk'] at f ⊢; omega
      · simp [hk', Ne.symm hk'] at f ⊢; omega
  | some p =>
    have hpl := hprev p (by simp [hp])
    simp only [hp] at f
    by_cases he : isEdge p pc
    · simp only [Option.filter, decide_eq_true he, if_true, Option.map_some, Option.some.injEq]
      refine ⟨⟨?_, ?_, ?_, ?_⟩, ?_⟩
      · by_cases hk' : k = recordIndex pc <;> simp [hk', a]
      · by_cases hkp : recordIndex p = k
        · simpa [hkp] using increment_wf b hpc
        · simpa [hkp] using b
      · by_cases hk' : k = recordIndex pc
        · simpa [hk'] using increment_wf (by simpa [hk'] using c) hpl
        · simpa [hk'] using c
      · have := total_increment c p
        by_cases hk' : k = recordIndex pc
        · simp only [hk', if_true] at *; omega
        · simp only [hk', if_false] at *; omega
      · have := total_increment b pc
        by_cases hk' : k = recordIndex pc
        · have hk'' : recordIndex pc = k := hk'.symm
          by_cases hkp : recordIndex p = k
          · simp only [hk'', hkp, if_true] at *; omega
          · simp only [hk'', hkp, if_false, if_true] at *; omega
        · have hk'' : ¬ recordIndex pc = k := fun x => hk' x.symm
          by_cases hkp : recordIndex p = k
          · simp only [hk', hk'', hkp, if_true, if_false] at *; omega
          · simp only [hk', hk'', hkp, if_false] at *; omega
    · simp only [Option.filter, he, if_false, decide_false, Bool.false_eq_true, Option.map_none, reduceCtorEq]
      refine ⟨⟨?_, b, c, ?_⟩, ?_⟩
      · by_cases hk' : k = recordIndex pc <;> simp [hk', a]
      · simp only; omega
      · have h8 : p.toNat + pairBytes = pc.toNat := by
          by_contra hne; exact he hne
        by_cases hk' : k = recordIndex pc
        · have hk'' : recordIndex pc = k := hk'.symm
          simp only [hk'', if_true]
          split at f <;> omega
        · have hk'' : ¬ recordIndex pc = k := fun x => hk' x.symm
          simp only [hk', hk'', if_false]
          split at f <;> omega

theorem Exh.raise_wf {e : Exh} (hw : e.Wf) (d : ExhDiag) : (e.raise d).Wf := hw

/-- What `onCommit` can do (R492, R498 to R500). -/
theorem Exh.onCommit_cases {p : Params} {e e' : Exh} {x : Snapshot} {index : Nat} (h : e.onCommit p x index = some e') :
    (e.fault ≠ none ∧ e' = e)
      ∨ (e.fault = none ∧ x.regsValid = false ∧ e' = e.raise (.pcUnavailable index))
      ∨ (e.fault = none ∧ x.regsValid = true ∧ ∃ pc, x.pcBytes p = some pc
          ∧ ((progBytes ≤ pc.toNat ∧ e' = e.raise (.pcOutOfRange pc index)) ∨ (pc.toNat < progBytes ∧ e' = e.countPc pc))) := by
  unfold Exh.onCommit at h
  split at h
  · next hf => exact .inl ⟨by simpa [Option.isSome_iff_ne_none] using hf, by simpa using h.symm⟩
  · next hf =>
    have hf' : e.fault = none := by simpa using hf
    split at h
    · next hv => exact .inr (.inl ⟨hf', hv, by simpa using h.symm⟩)
    · next hv =>
      refine .inr (.inr ⟨hf', by simpa using hv, ?_⟩)
      cases hp : x.pcBytes p with
      | none => simp [hp] at h
      | some pc =>
        refine ⟨pc, rfl, ?_⟩
        simp only [hp, Option.map_some, Option.some.injEq, Exh.commitPc] at h
        split at h
        · next hb => exact .inl ⟨hb, h.symm⟩
        · next hb => exact .inr ⟨by omega, h.symm⟩

/-- A commit keeps EXH's invariant. -/
theorem Exh.onCommit_wf {p : Params} {e e' : Exh} {x : Snapshot} {index : Nat} (hw : e.Wf)
    (h : e.onCommit p x index = some e') : e'.Wf := by
  rcases Exh.onCommit_cases h with ⟨-, rfl⟩ | ⟨-, -, rfl⟩ | ⟨-, -, pc, -, ⟨-, rfl⟩ | ⟨hb, rfl⟩⟩
  · exact hw
  · exact Exh.raise_wf hw _
  · exact Exh.raise_wf hw _
  · exact Exh.countPc_wf hw hb

/-- With legal parameters the pc's bytes lie inside the register block (log 13). -/
theorem Snapshot.pcBytes_isSome {p : Params} (hp : p.ok) (x : Snapshot) : (x.pcBytes p).isSome := by
  have h1 := hp.2
  have h2 := p.pcIndex.isLt
  have h3 : p.sregBytes * p.pcIndex.val + p.sregBytes ≤ 32 * p.sregBytes := by nlinarith
  unfold Snapshot.pcBytes memRead
  rw [if_pos (by unfold pcOffset Params.regBlockBytes; omega)]
  rfl

/-- With legal parameters a commit always has an answer. -/
theorem Exh.onCommit_isSome {p : Params} (hp : p.ok) (e : Exh) (x : Snapshot) (index : Nat) :
    (e.onCommit p x index).isSome := by
  unfold Exh.onCommit
  split
  · rfl
  · split
    · rfl
    · simpa using Snapshot.pcBytes_isSome hp x

/-- EXH after reset satisfies its invariant. -/
theorem Exh.reset_wf : Exh.reset.Wf :=
  ⟨rfl, fun _ _ => ⟨(by decide : Record.reset.Wf), Nat.le_refl 0⟩, rfl, fun _ h => (by cases h)⟩

/-- Every history that commits build from reset satisfies EXH's invariant (R43, R501 to R503). -/
theorem exhOf_wf (p : Params) (snapshots : List Snapshot) : (exhOf p snapshots).Wf := by
  unfold exhOf
  generalize snapshots.zipIdx = commits
  suffices h : ∀ e : Exh, e.Wf → (commits.foldl (fun e xi => (e.onCommit p xi.1 xi.2).getD e) e).Wf from h _ Exh.reset_wf
  induction commits with
  | nil => exact fun _ he => he
  | cons xi rest ih =>
    intro e he
    refine ih _ ?_
    show ((e.onCommit p xi.1 xi.2).getD e).Wf
    cases h : e.onCommit p xi.1 xi.2 with
    | none => exact he
    | some e' => exact Exh.onCommit_wf he h

end Sys2Proof.Machine
end

