-- ==== Sys2Proof/Laws/Step.lean ====
section
/-! SUPPORT. What a step can do, said once for each unit; every invariant is derived from these. -/

namespace Sys2Proof.Machine

/-! ### IDEC's ports -/

/-- Decoding the upper word on the port only writes the upper result wire. -/
theorem runUpper_eq (s : State) : ∃ r, runUpper s = .next (s.setUpperRes r) := by
  unfold runUpper
  split
  · next i hi =>
    obtain ⟨dest, ops, h⟩ := exec_upper (decodeUpper_slot Params.suggested hi) s
    exact ⟨_, h⟩
  · exact ⟨_, rfl⟩

/-- Decoding the lower word on the port only writes the lower result wire. -/
theorem runLower_eq (s : State) : ∃ r, runLower s = .next (s.setLowerRes r) := by
  unfold runLower
  split
  · next i hi =>
    obtain ⟨dest, ops, h⟩ := exec_lower (decodeLower_slot Params.suggested hi) s
    exact ⟨_, h⟩
  · exact ⟨_, rfl⟩

/-- The lower half of a pair only writes the lower result wire. -/
theorem runPairLower_eq (s : State) : ∃ r, runPairLower s = .next (s.setLowerRes r) := by
  unfold runPairLower
  split
  · exact ⟨_, rfl⟩
  · exact runLower_eq s

/-- A pair call always answers, and only writes the port. -/
theorem decodePairCall_eq (lower upper address : Word) (s : State) :
    ∃ port, decodePairCall lower upper address s = .next (s.setIdec port) := by
  obtain ⟨r, hr⟩ := runUpper_eq (s.setIdec (pairInput lower upper address))
  obtain ⟨q, hq⟩ := runPairLower_eq ((s.setIdec (pairInput lower upper address)).setUpperRes r)
  simp only [decodePairCall, hr]
  exact ⟨_, hq⟩

/-- What `decodePairAt` can answer. -/
theorem decodePairAtCall_cases {ref : SnapshotRef} {address : Word} {s t : State}
    (h : decodePairAtCall ref address s = .next t) :
    ∃ x, s.resolve ref = .ok x ∧ x.imemValid = true ∧ address.toNat % 8 = 0 ∧ address.toNat + 8 ≤ progBytes
      ∧ Image.wf progBytes x.imem = true
      ∧ decodePairCall (le32 (Image.bytesFrom x.imem address.toNat 8))
          (le32 ((Image.bytesFrom x.imem address.toNat 8).drop 4)) address s = .next t := by
  unfold decodePairAtCall at h
  split at h
  · simp at h
  · next x hx =>
    split at h
    · simp at h
    · next hpre =>
      rw [not_or, not_not] at hpre
      split at h
      · simp at h
      · next bytes hb =>
        obtain ⟨hle, rfl⟩ := memRead_eq_some.mp hb
        split at h
        · next hw => exact ⟨x, hx, by simpa using hpre.1, hpre.2, hle, hw, h⟩
        · simp at h

/-! ### GPD -/

/-- What `gsDecode` can answer: GPD at its start, on a canonical image, with the window inside it. -/
theorem gsDecodeCall_cases {ref : SnapshotRef} {off avail : Nat} {s t : State} (h : gsDecodeCall ref off avail s = .next t) :
    ∃ x, s.resolve ref = .ok x ∧ x.dmemValid = true ∧ off + avail ≤ dataBytes ∧ Image.wf dataBytes x.dmem = true
      ∧ t = { s with gpd := Gpd.start x.dmem off avail, active := .packet } := by
  unfold gsDecodeCall at h
  split at h
  · simp at h
  · next x hx =>
    split at h
    · simp at h
    · next hv =>
      split at h
      · simp at h
      · next hw =>
        split at h
        · next hi => exact ⟨x, hx, by simpa using hv, by omega, hi, by simpa using h.symm⟩
        · simp at h

/-- What GPD's step can do: the bound check fails, a tag beat, or an item beat. -/
theorem Gpd.step_cases {g g' : Gpd} (h : g.step = .ok g') :
    (g.limit < g.cursor + 16 ∧ g' = g.stopPartial (.overrun g.phase.beat g.cursor))
      ∨ (g.cursor + 16 ≤ g.limit ∧ g.phase = .tag
          ∧ g' = g.tagStep (tagOfBeat (le64 (Image.bytesFrom g.dmem (g.base + g.cursor) 16))
              (le64 ((Image.bytesFrom g.dmem (g.base + g.cursor) 16).drop 8))))
      ∨ (g.cursor + 16 ≤ g.limit ∧ ∃ l r p reg, g.phase = .items l r ∧ g.packet.getLast? = some p
          ∧ p.tag.regs[r]? = some reg
          ∧ g' = (g.addItem (g.itemAt reg (Image.bytesFrom g.dmem (g.base + g.cursor) 16))).afterItem p.tag l r) := by
  unfold Gpd.step at h
  split at h
  · next hb => exact .inl ⟨hb, by simpa using h.symm⟩
  · next hb =>
    split at h
    · simp at h
    · next raw hraw =>
      obtain ⟨-, rfl⟩ := memRead_eq_some.mp hraw
      split at h
      · next hp => exact .inr (.inl ⟨by omega, hp, by simpa using h.symm⟩)
      · next l r hp =>
        unfold Gpd.itemStep at h
        split at h
        · simp at h
        · next p hlast =>
          split at h
          · simp at h
          · next reg hreg => exact .inr (.inr ⟨by omega, l, r, p, reg, hp, hlast, hreg, by simpa using h.symm⟩)

/-- What a step of a `gsDecode` in progress can do: GPD moves, and the call is over when it stops. -/
theorem gpdStep_cases {s t : State} (h : gpdStep s = .next t) :
    (s.gpd.status = .running ∧ ∃ g, s.gpd.step = .ok g
        ∧ t = { s with gpd := g, active := if g.status = .running then .packet else .idle })
      ∨ (s.gpd.status ≠ .running ∧ t = { s with active := .idle }) := by
  unfold gpdStep at h
  split at h
  · next hs =>
    split at h
    · next g hg => exact .inl ⟨hs, g, hg, by simpa using h.symm⟩
    · simp at h
  · next hs => exact .inr ⟨hs, by simpa using h.symm⟩

/-- An item goes to the last primitive. -/
theorem appendItem_concat (packet : List GsPrimitive) (p : GsPrimitive) (item : GsItem) :
    appendItem (packet ++ [p]) item = packet ++ [{ p with items := p.items ++ [item] }] := by
  induction packet with
  | nil => rfl
  | cons q rest ih =>
    cases rest with
    | nil => rfl
    | cons q' rest => simpa [appendItem] using ih

/-! ### TSR -/

/-- What a step of a `traceRead` in progress can do. -/
theorem tsrStep_cases {s t : State} (h : tsrStep s = .next t) :
    (s.tsr.status = .running ∧ ∃ i rest u, decodePacket s.params s.tsr.rest = .ok (i, rest) ∧ exec i s = .next u
        ∧ t = u.setCursor (s.tsr.cursor + (s.tsr.rest.length - rest.length)))
      ∨ (s.tsr.status = .running ∧ s.tsr.rest = [] ∧ t = s.traceDone)
      ∨ (s.tsr.status = .running ∧ ∃ d, t = s.raiseFatal d)
      ∨ (s.tsr.status ≠ .running ∧ t = { s with active := .idle }) := by
  unfold tsrStep at h
  split at h
  · next hs =>
    split at h
    · next i rest hd =>
      split at h
      · next u hu => exact .inl ⟨hs, i, rest, u, hd, hu, by simpa using h.symm⟩
      · simp at h
      · simp at h
    · next hd =>
      refine .inr (.inl ⟨hs, ?_, by simpa using h.symm⟩)
      rcases decodePacket_error hd with ⟨hr, -⟩ | ⟨_, _, -, -, he⟩ | ⟨_, _, _, -, -, -, he⟩
      · exact hr
      · simp at he
      · simp at he
    · exact .inr (.inr (.inl ⟨hs, _, by simpa using h.symm⟩))
    · exact .inr (.inr (.inl ⟨hs, _, by simpa using h.symm⟩))
  · next hs => exact .inr (.inr (.inr ⟨hs, by simpa using h.symm⟩))

/-- A packet read in a trace step is well formed, and the cursor stays inside the stream. -/
theorem Tsr.cursor_le {p : Params} {t : Tsr} {i : Instr} {rest : List Byte} (h : decodePacket p t.rest = .ok (i, rest)) :
    t.cursor < t.cursor + (t.rest.length - rest.length)
      ∧ t.cursor + (t.rest.length - rest.length) ≤ t.stream.length := by
  obtain ⟨-, -, hl, -⟩ := decodePacket_wf h
  simp only [Tsr.rest, List.length_drop] at *
  omega

/-! ### The block -/

/-- What serving a call can do. -/
theorem serve_cases {s t : State} {r : Request} (h : serve s r = .next t) :
    (∃ x, t = { s with bfxOut := some x }) ∨ (∃ port, t = s.setIdec port)
      ∨ (∃ x off avail, off + avail ≤ dataBytes ∧ Image.wf dataBytes x = true
          ∧ t = { s with gpd := Gpd.start x off avail, active := .packet })
      ∨ (∃ stream, t = { s with tsr := Tsr.start stream, exh := Exh.reset, active := .trace }) := by
  cases r with
  | extract value low high =>
    simp only [serve, extractCall] at h
    split at h
    · next x _ => exact .inl ⟨x, by simpa using h.symm⟩
    · simp at h
  | decodeLower w a =>
    obtain ⟨q, hq⟩ := runLower_eq (s.setIdec (lowerInput w a))
    simp only [serve, decodeLowerCall, hq] at h
    exact .inr (.inl ⟨_, (Host.Outcome.next.inj h).symm⟩)
  | decodeUpper w a =>
    obtain ⟨q, hq⟩ := runUpper_eq (s.setIdec (upperInput w a))
    simp only [serve, decodeUpperCall, hq] at h
    exact .inr (.inl ⟨_, (Host.Outcome.next.inj h).symm⟩)
  | decodePair l u a =>
    obtain ⟨port, hp⟩ := decodePairCall_eq l u a s
    simp only [serve, hp] at h
    exact .inr (.inl ⟨port, by simpa using h.symm⟩)
  | decodePairAt ref a =>
    obtain ⟨x, -, -, -, -, -, hx⟩ := decodePairAtCall_cases h
    obtain ⟨port, hp⟩ := decodePairCall_eq (le32 (Image.bytesFrom x.imem a.toNat 8))
      (le32 ((Image.bytesFrom x.imem a.toNat 8).drop 4)) a s
    rw [hp] at hx
    exact .inr (.inl ⟨port, by simpa using hx.symm⟩)
  | gsDecode ref off avail =>
    obtain ⟨x, -, -, hw, hi, rfl⟩ := gsDecodeCall_cases h
    exact .inr (.inr (.inl ⟨x.dmem, off, avail, hw, hi, rfl⟩))
  | traceRead stream => exact .inr (.inr (.inr ⟨stream, by simpa [serve, traceReadCall] using h.symm⟩))

/-- What a step can do: the unit whose call is in progress moves, or the next call is served, or nothing is asked. -/
theorem step_cases {s t : State} (h : step s = .next t) :
    (s.active = .trace ∧ tsrStep s = .next t) ∨ (s.active = .packet ∧ gpdStep s = .next t)
      ∨ (s.active = .idle ∧ s.requests = [] ∧ t = s)
      ∨ (s.active = .idle ∧ ∃ r rest, s.requests = r :: rest ∧ serve { s with requests := rest } r = .next t) := by
  unfold step at h
  split at h
  · next ha => exact .inl ⟨ha, h⟩
  · next ha => exact .inr (.inl ⟨ha, h⟩)
  · next ha =>
    unfold serveNext at h
    split at h
    · next hr => exact .inr (.inr (.inl ⟨ha, hr, by simpa using h.symm⟩))
    · next r rest hr => exact .inr (.inr (.inr ⟨ha, r, rest, hr, h⟩))

end Sys2Proof.Machine
end

