-- ==== Sys2Proof/Laws/Gpd.lean ====
section
/-! SUPPORT. GPD's invariant, step by step: a tag beat, an item beat, a failed bound check. -/

namespace Sys2Proof.Machine

@[simp] theorem length_registerList (hi : DWord) (n : Nat) : (registerList hi n).length = n := by simp [registerList]

/-- A tag's register list has its effective length (R408). -/
theorem tagOfBeat_regs (lo hi : DWord) :
    (tagOfBeat lo hi).regs.length = effectiveCount (tagOfBeat lo hi).nreg := by simp [tagOfBeat]

theorem effectiveCount_pos (n : BitVec 4) : 0 < effectiveCount n := by
  unfold effectiveCount
  split
  · omega
  · next h =>
    rcases Nat.eq_zero_or_pos n.toNat with h0 | h0
    · exact absurd (BitVec.eq_of_toNat_eq (by simpa using h0)) h
    · exact h0

@[simp] theorem beatsOf_concat (packet : List GsPrimitive) (p : GsPrimitive) :
    beatsOf (packet ++ [p]) = beatsOf packet + 1 + p.items.length := by
  simp [beatsOf]; omega

theorem eq_concat_of_getLast? {packet : List GsPrimitive} {p : GsPrimitive} (h : packet.getLast? = some p) :
    packet = packet.dropLast ++ [p] := by
  obtain ⟨ys, hys⟩ := List.getLast?_eq_some_iff.mp h
  rw [hys]; simp

/-- The state of a running decode after its tag beat. -/
theorem Gpd.tagStep_wf {g : Gpd} (hw : g.Wf) (hr : g.status = .running) (hp : g.phase = .tag) (hb : g.cursor + 16 ≤ g.limit)
    (t : GsTag) (ht : t.regs.length = effectiveCount t.nreg) : (g.tagStep t).Wf := by
  obtain ⟨h1, h2, h3, h4, h5, h6, h7⟩ := hw
  simp only [Gpd.StatusWf, hr, Gpd.PhaseWf, hp] at h7
  have hreg : ∀ p ∈ g.packet ++ [({ tag := t, items := [] } : GsPrimitive)], p.tag.regs.length = effectiveCount p.tag.nreg := by
    intro p hp'
    rcases List.mem_append.mp hp' with h | h
    · exact h5 p h
    · rw [List.mem_singleton.mp h]; exact ht
  have hdrop : ∀ p ∈ (g.packet ++ [({ tag := t, items := [] } : GsPrimitive)]).dropLast, p.Full ∧ p.tag.eop = false := by
    intro p hp'
    rw [List.dropLast_concat] at hp'
    cases hl : g.packet.getLast? with
    | none => rw [List.getLast?_eq_none_iff.mp hl] at hp'; simp at hp'
    | some q =>
      rw [eq_concat_of_getLast? hl] at hp'
      rcases List.mem_append.mp hp' with h | h
      · exact h6 p h
      · rw [List.mem_singleton.mp h]; exact h7 q (by simp [hl])
  have hcur : g.cursor + 16 = 16 * beatsOf (g.packet ++ [({ tag := t, items := [] } : GsPrimitive)]) := by
    rw [beatsOf_concat]; simp; omega
  unfold Gpd.tagStep
  simp only
  split
  · next hm =>
    refine ⟨h1, h2, hb, hcur, hreg, hdrop, ?_⟩
    exact ⟨hm, _, List.getLast?_concat, rfl, rfl⟩
  · next hm =>
    have hm' : t.mode = .packed := by simpa using hm
    split
    · next hz =>
      split
      · next he =>
        refine ⟨h1, h2, hb, hcur, hreg, hdrop, ?_⟩
        exact ⟨_, List.getLast?_concat, ⟨hm', by simpa using hz.symm⟩, he⟩
      · next he =>
        refine ⟨h1, h2, hb, hcur, hreg, hdrop, ?_⟩
        simp only [Gpd.StatusWf, Gpd.setPhase_status, Gpd.openPrimitive_status, hr, Gpd.PhaseWf, Gpd.setPhase_phase,
          Gpd.setPhase_packet, Gpd.openPrimitive_packet, List.getLast?_concat]
        intro p hp'
        cases (Option.mem_some.mp hp')
        exact ⟨⟨hm', by simpa using hz.symm⟩, by simpa using he⟩
    · next hz =>
      refine ⟨h1, h2, hb, hcur, hreg, hdrop, ?_⟩
      simp only [Gpd.StatusWf, Gpd.setPhase_status, Gpd.openPrimitive_status, hr, Gpd.PhaseWf, Gpd.setPhase_phase,
        Gpd.setPhase_packet, Gpd.openPrimitive_packet, List.getLast?_concat]
      refine ⟨_, rfl, hm', ?_, ?_, by simp⟩
      · exact Nat.pos_of_ne_zero fun h0 => hz (by simp [GsTag.itemCount, h0])
      · exact Nat.pos_of_ne_zero fun h0 => hz (by simp [GsTag.itemCount, h0])

/-- The state of a running decode after an item beat. -/
theorem Gpd.itemStep_wf {g : Gpd} (hw : g.Wf) (hr : g.status = .running) {l r : Nat} (hp : g.phase = .items l r)
    (hb : g.cursor + 16 ≤ g.limit) {p : GsPrimitive} (hl : g.packet.getLast? = some p) (item : GsItem) :
    ((g.addItem item).afterItem p.tag l r).Wf := by
  obtain ⟨h1, h2, h3, h4, h5, h6, h7⟩ := hw
  simp only [Gpd.StatusWf, hr, Gpd.PhaseWf, hp] at h7
  obtain ⟨p', hp', hm, hln, hrn, hlen⟩ := h7
  cases (hl.symm.trans hp')
  have hpk : appendItem g.packet item = g.packet.dropLast ++ [{ p with items := p.items ++ [item] }] := by
    conv_lhs => rw [eq_concat_of_getLast? hl]
    exact appendItem_concat _ _ _
  have hpm : p ∈ g.packet := by rw [eq_concat_of_getLast? hl]; simp
  have hreg : ∀ q ∈ appendItem g.packet item, q.tag.regs.length = effectiveCount q.tag.nreg := by
    intro q hq
    rw [hpk] at hq
    rcases List.mem_append.mp hq with h | h
    · exact h5 q (List.dropLast_subset _ h)
    · rw [List.mem_singleton.mp h]; exact h5 p hpm
  have hdrop : ∀ q ∈ (appendItem g.packet item).dropLast, q.Full ∧ q.tag.eop = false := by
    rw [hpk, List.dropLast_concat]; exact h6
  have hcur : g.cursor + 16 = 16 * beatsOf (appendItem g.packet item) := by
    have := beatsOf_concat g.packet.dropLast p
    rw [← eq_concat_of_getLast? hl] at this
    rw [hpk, beatsOf_concat, h4, this]
    simp only [List.length_append, List.length_singleton]
    omega
  have hlast : (appendItem g.packet item).getLast? = some { p with items := p.items ++ [item] } := by
    rw [hpk, List.getLast?_concat]
  unfold Gpd.afterItem
  split
  · next hr' =>
    refine ⟨h1, h2, hb, hcur, hreg, hdrop, ?_⟩
    simp only [Gpd.StatusWf, Gpd.setPhase_status, Gpd.addItem_status, hr, Gpd.PhaseWf, Gpd.setPhase_phase,
      Gpd.setPhase_packet, Gpd.addItem_packet]
    exact ⟨_, hlast, hm, hln, hr', by simp [hlen]; omega⟩
  · next hr' =>
    have hrl : r + 1 = p.tag.regs.length := by omega
    split
    · next hl' =>
      refine ⟨h1, h2, hb, hcur, hreg, hdrop, ?_⟩
      simp only [Gpd.StatusWf, Gpd.setPhase_status, Gpd.addItem_status, hr, Gpd.PhaseWf, Gpd.setPhase_phase,
        Gpd.setPhase_packet, Gpd.addItem_packet]
      refine ⟨_, hlast, hm, hl', by simpa using Nat.lt_of_le_of_lt (Nat.zero_le r) hrn, ?_⟩
      simp only [List.length_append, List.length_singleton, hlen, Nat.add_mul, Nat.one_mul]
      omega
    · next hl' =>
      have hll : l + 1 = p.tag.nloop.toNat := by omega
      have hfull : ({ p with items := p.items ++ [item] } : GsPrimitive).Full := by
        refine ⟨hm, ?_⟩
        simp only [List.length_append, List.length_singleton, hlen, GsTag.itemCount, ← hll, Nat.add_mul, Nat.one_mul]
        omega
      split
      · next he => exact ⟨h1, h2, hb, hcur, hreg, hdrop, _, hlast, hfull, he⟩
      · next he =>
        refine ⟨h1, h2, hb, hcur, hreg, hdrop, ?_⟩
        simp only [Gpd.StatusWf, Gpd.setPhase_status, Gpd.addItem_status, hr, Gpd.PhaseWf, Gpd.setPhase_phase,
          Gpd.setPhase_packet, Gpd.addItem_packet, hlast]
        intro q hq
        cases (Option.mem_some.mp hq)
        exact ⟨hfull, by simpa using he⟩

/-- A step of a running decode keeps GPD's invariant. -/
theorem Gpd.step_wf {g g' : Gpd} (hw : g.Wf) (hr : g.status = .running) (h : g.step = .ok g') : g'.Wf := by
  rcases Gpd.step_cases h with ⟨hb, rfl⟩ | ⟨hb, hp, rfl⟩ | ⟨hb, l, r, p, reg, hp, hl, -, rfl⟩
  · obtain ⟨h1, h2, h3, h4, h5, h6, h7⟩ := hw
    simp only [Gpd.StatusWf, hr] at h7
    exact ⟨h1, h2, h3, h4, h5, h6, h7, rfl, rfl, hb⟩
  · exact Gpd.tagStep_wf hw hr hp hb _ (tagOfBeat_regs _ _)
  · exact Gpd.itemStep_wf hw hr hp hb hl _

/-- A step of a running decode with GPD's invariant has an answer: no beat outside the image, no item without a tag. -/
theorem Gpd.step_isOk {g : Gpd} (hw : g.Wf) (hr : g.status = .running) : ∃ g', g.step = .ok g' := by
  obtain ⟨h1, h2, h3, h4, h5, h6, h7⟩ := hw
  unfold Gpd.step
  split
  · exact ⟨_, rfl⟩
  · next hb =>
    rw [memRead, if_pos (by omega)]
    simp only
    split
    · exact ⟨_, rfl⟩
    · next l r hp =>
      simp only [Gpd.StatusWf, hr, Gpd.PhaseWf, hp] at h7
      obtain ⟨p, hlast, -, -, hrr, -⟩ := h7
      unfold Gpd.itemStep
      simp only [hlast, List.getElem?_eq_getElem hrr]
      exact ⟨_, rfl⟩

/-- GPD at its start satisfies its invariant when the window lies inside the image (R401, R541). -/
theorem Gpd.start_wf {img : Image} {off avail : Nat} (hi : Image.wf dataBytes img = true) (hw : off + avail ≤ dataBytes) :
    (Gpd.start img off avail).Wf :=
  ⟨hi, hw, Nat.zero_le _, rfl, by simp [Gpd.start], by simp [Gpd.start], by simp [Gpd.start, Gpd.StatusWf, Gpd.PhaseWf]⟩

end Sys2Proof.Machine
end

