-- ==== Sys2Proof/Laws/PerInstr.lean ====
section
/-! SUPPORT. The round trip of every instruction: its encoding, whatever bytes follow, decodes to it. One lemma for each
constructor of Instr. -/

namespace Sys2Proof.Laws.RoundTrip

/-- A well-formed instruction's encoding decodes to the instruction and leaves the bytes after it. -/
def Statement (i : Instr) : Prop :=
  ∀ p : Params, p.ok → i.wf p = true → ∀ rest, decode p (i.slot p) (encode p i ++ rest) = .ok (i, rest)

theorem addx (dest : BitVec 4) (fd fs ft : BitVec 5) : Statement (.addx dest fd fs ft) := fun _ _ _ =>
  decode_upper rfl (decodeUpper_row 0x00#6 (by simp) rfl rfl (by simp))

theorem addy (dest : BitVec 4) (fd fs ft : BitVec 5) : Statement (.addy dest fd fs ft) := fun _ _ _ =>
  decode_upper rfl (decodeUpper_row 0x01#6 (by simp) rfl rfl (by simp))

theorem addz (dest : BitVec 4) (fd fs ft : BitVec 5) : Statement (.addz dest fd fs ft) := fun _ _ _ =>
  decode_upper rfl (decodeUpper_row 0x02#6 (by simp) rfl rfl (by simp))

theorem addw (dest : BitVec 4) (fd fs ft : BitVec 5) : Statement (.addw dest fd fs ft) := fun _ _ _ =>
  decode_upper rfl (decodeUpper_row 0x03#6 (by simp) rfl rfl (by simp))

theorem subx (dest : BitVec 4) (fd fs ft : BitVec 5) : Statement (.subx dest fd fs ft) := fun _ _ _ =>
  decode_upper rfl (decodeUpper_row 0x04#6 (by simp) rfl rfl (by simp))

theorem suby (dest : BitVec 4) (fd fs ft : BitVec 5) : Statement (.suby dest fd fs ft) := fun _ _ _ =>
  decode_upper rfl (decodeUpper_row 0x05#6 (by simp) rfl rfl (by simp))

theorem subz (dest : BitVec 4) (fd fs ft : BitVec 5) : Statement (.subz dest fd fs ft) := fun _ _ _ =>
  decode_upper rfl (decodeUpper_row 0x06#6 (by simp) rfl rfl (by simp))

theorem subw (dest : BitVec 4) (fd fs ft : BitVec 5) : Statement (.subw dest fd fs ft) := fun _ _ _ =>
  decode_upper rfl (decodeUpper_row 0x07#6 (by simp) rfl rfl (by simp))

theorem maddx (dest : BitVec 4) (fd fs ft : BitVec 5) : Statement (.maddx dest fd fs ft) := fun _ _ _ =>
  decode_upper rfl (decodeUpper_row 0x08#6 (by simp) rfl rfl (by simp))

theorem maddy (dest : BitVec 4) (fd fs ft : BitVec 5) : Statement (.maddy dest fd fs ft) := fun _ _ _ =>
  decode_upper rfl (decodeUpper_row 0x09#6 (by simp) rfl rfl (by simp))

theorem maddz (dest : BitVec 4) (fd fs ft : BitVec 5) : Statement (.maddz dest fd fs ft) := fun _ _ _ =>
  decode_upper rfl (decodeUpper_row 0x0A#6 (by simp) rfl rfl (by simp))

theorem maddw (dest : BitVec 4) (fd fs ft : BitVec 5) : Statement (.maddw dest fd fs ft) := fun _ _ _ =>
  decode_upper rfl (decodeUpper_row 0x0B#6 (by simp) rfl rfl (by simp))

theorem msubx (dest : BitVec 4) (fd fs ft : BitVec 5) : Statement (.msubx dest fd fs ft) := fun _ _ _ =>
  decode_upper rfl (decodeUpper_row 0x0C#6 (by simp) rfl rfl (by simp))

theorem msuby (dest : BitVec 4) (fd fs ft : BitVec 5) : Statement (.msuby dest fd fs ft) := fun _ _ _ =>
  decode_upper rfl (decodeUpper_row 0x0D#6 (by simp) rfl rfl (by simp))

theorem msubz (dest : BitVec 4) (fd fs ft : BitVec 5) : Statement (.msubz dest fd fs ft) := fun _ _ _ =>
  decode_upper rfl (decodeUpper_row 0x0E#6 (by simp) rfl rfl (by simp))

theorem msubw (dest : BitVec 4) (fd fs ft : BitVec 5) : Statement (.msubw dest fd fs ft) := fun _ _ _ =>
  decode_upper rfl (decodeUpper_row 0x0F#6 (by simp) rfl rfl (by simp))

theorem maxx (dest : BitVec 4) (fd fs ft : BitVec 5) : Statement (.maxx dest fd fs ft) := fun _ _ _ =>
  decode_upper rfl (decodeUpper_row 0x10#6 (by simp) rfl rfl (by simp))

theorem maxy (dest : BitVec 4) (fd fs ft : BitVec 5) : Statement (.maxy dest fd fs ft) := fun _ _ _ =>
  decode_upper rfl (decodeUpper_row 0x11#6 (by simp) rfl rfl (by simp))

theorem maxz (dest : BitVec 4) (fd fs ft : BitVec 5) : Statement (.maxz dest fd fs ft) := fun _ _ _ =>
  decode_upper rfl (decodeUpper_row 0x12#6 (by simp) rfl rfl (by simp))

theorem maxw (dest : BitVec 4) (fd fs ft : BitVec 5) : Statement (.maxw dest fd fs ft) := fun _ _ _ =>
  decode_upper rfl (decodeUpper_row 0x13#6 (by simp) rfl rfl (by simp))

theorem minix (dest : BitVec 4) (fd fs ft : BitVec 5) : Statement (.minix dest fd fs ft) := fun _ _ _ =>
  decode_upper rfl (decodeUpper_row 0x14#6 (by simp) rfl rfl (by simp))

theorem miniy (dest : BitVec 4) (fd fs ft : BitVec 5) : Statement (.miniy dest fd fs ft) := fun _ _ _ =>
  decode_upper rfl (decodeUpper_row 0x15#6 (by simp) rfl rfl (by simp))

theorem miniz (dest : BitVec 4) (fd fs ft : BitVec 5) : Statement (.miniz dest fd fs ft) := fun _ _ _ =>
  decode_upper rfl (decodeUpper_row 0x16#6 (by simp) rfl rfl (by simp))

theorem miniw (dest : BitVec 4) (fd fs ft : BitVec 5) : Statement (.miniw dest fd fs ft) := fun _ _ _ =>
  decode_upper rfl (decodeUpper_row 0x17#6 (by simp) rfl rfl (by simp))

theorem mulx (dest : BitVec 4) (fd fs ft : BitVec 5) : Statement (.mulx dest fd fs ft) := fun _ _ _ =>
  decode_upper rfl (decodeUpper_row 0x18#6 (by simp) rfl rfl (by simp))

theorem muly (dest : BitVec 4) (fd fs ft : BitVec 5) : Statement (.muly dest fd fs ft) := fun _ _ _ =>
  decode_upper rfl (decodeUpper_row 0x19#6 (by simp) rfl rfl (by simp))

theorem mulz (dest : BitVec 4) (fd fs ft : BitVec 5) : Statement (.mulz dest fd fs ft) := fun _ _ _ =>
  decode_upper rfl (decodeUpper_row 0x1A#6 (by simp) rfl rfl (by simp))

theorem mulw (dest : BitVec 4) (fd fs ft : BitVec 5) : Statement (.mulw dest fd fs ft) := fun _ _ _ =>
  decode_upper rfl (decodeUpper_row 0x1B#6 (by simp) rfl rfl (by simp))

theorem mulq (dest : BitVec 4) (fd fs : BitVec 5) : Statement (.mulq dest fd fs) := fun _ _ _ =>
  decode_upper rfl (decodeUpper_row 0x1C#6 (by simp) rfl rfl (by simp))

theorem maxi (dest : BitVec 4) (fd fs : BitVec 5) : Statement (.maxi dest fd fs) := fun _ _ _ =>
  decode_upper rfl (decodeUpper_row 0x1D#6 (by simp) rfl rfl (by simp))

theorem muli (dest : BitVec 4) (fd fs : BitVec 5) : Statement (.muli dest fd fs) := fun _ _ _ =>
  decode_upper rfl (decodeUpper_row 0x1E#6 (by simp) rfl rfl (by simp))

theorem minii (dest : BitVec 4) (fd fs : BitVec 5) : Statement (.minii dest fd fs) := fun _ _ _ =>
  decode_upper rfl (decodeUpper_row 0x1F#6 (by simp) rfl rfl (by simp))

theorem addq (dest : BitVec 4) (fd fs : BitVec 5) : Statement (.addq dest fd fs) := fun _ _ _ =>
  decode_upper rfl (decodeUpper_row 0x20#6 (by simp) rfl rfl (by simp))

theorem maddq (dest : BitVec 4) (fd fs : BitVec 5) : Statement (.maddq dest fd fs) := fun _ _ _ =>
  decode_upper rfl (decodeUpper_row 0x21#6 (by simp) rfl rfl (by simp))

theorem addi (dest : BitVec 4) (fd fs : BitVec 5) : Statement (.addi dest fd fs) := fun _ _ _ =>
  decode_upper rfl (decodeUpper_row 0x22#6 (by simp) rfl rfl (by simp))

theorem maddi (dest : BitVec 4) (fd fs : BitVec 5) : Statement (.maddi dest fd fs) := fun _ _ _ =>
  decode_upper rfl (decodeUpper_row 0x23#6 (by simp) rfl rfl (by simp))

theorem subq (dest : BitVec 4) (fd fs : BitVec 5) : Statement (.subq dest fd fs) := fun _ _ _ =>
  decode_upper rfl (decodeUpper_row 0x24#6 (by simp) rfl rfl (by simp))

theorem msubq (dest : BitVec 4) (fd fs : BitVec 5) : Statement (.msubq dest fd fs) := fun _ _ _ =>
  decode_upper rfl (decodeUpper_row 0x25#6 (by simp) rfl rfl (by simp))

theorem subi (dest : BitVec 4) (fd fs : BitVec 5) : Statement (.subi dest fd fs) := fun _ _ _ =>
  decode_upper rfl (decodeUpper_row 0x26#6 (by simp) rfl rfl (by simp))

theorem msubi (dest : BitVec 4) (fd fs : BitVec 5) : Statement (.msubi dest fd fs) := fun _ _ _ =>
  decode_upper rfl (decodeUpper_row 0x27#6 (by simp) rfl rfl (by simp))

theorem add (dest : BitVec 4) (fd fs ft : BitVec 5) : Statement (.add dest fd fs ft) := fun _ _ _ =>
  decode_upper rfl (decodeUpper_row 0x28#6 (by simp) rfl rfl (by simp))

theorem madd (dest : BitVec 4) (fd fs ft : BitVec 5) : Statement (.madd dest fd fs ft) := fun _ _ _ =>
  decode_upper rfl (decodeUpper_row 0x29#6 (by simp) rfl rfl (by simp))

theorem mul (dest : BitVec 4) (fd fs ft : BitVec 5) : Statement (.mul dest fd fs ft) := fun _ _ _ =>
  decode_upper rfl (decodeUpper_row 0x2A#6 (by simp) rfl rfl (by simp))

theorem max (dest : BitVec 4) (fd fs ft : BitVec 5) : Statement (.max dest fd fs ft) := fun _ _ _ =>
  decode_upper rfl (decodeUpper_row 0x2B#6 (by simp) rfl rfl (by simp))

theorem sub (dest : BitVec 4) (fd fs ft : BitVec 5) : Statement (.sub dest fd fs ft) := fun _ _ _ =>
  decode_upper rfl (decodeUpper_row 0x2C#6 (by simp) rfl rfl (by simp))

theorem msub (dest : BitVec 4) (fd fs ft : BitVec 5) : Statement (.msub dest fd fs ft) := fun _ _ _ =>
  decode_upper rfl (decodeUpper_row 0x2D#6 (by simp) rfl rfl (by simp))

theorem opmsub (dest : BitVec 4) (fd fs ft : BitVec 5) : Statement (.opmsub dest fd fs ft) := fun _ _ _ =>
  decode_upper rfl (decodeUpper_row 0x2E#6 (by simp) rfl rfl (by simp))

theorem mini (dest : BitVec 4) (fd fs ft : BitVec 5) : Statement (.mini dest fd fs ft) := fun _ _ _ =>
  decode_upper rfl (decodeUpper_row 0x2F#6 (by simp) rfl rfl (by simp))

theorem addax (dest : BitVec 4) (fs ft : BitVec 5) : Statement (.addax dest fs ft) := fun _ _ _ =>
  decode_upper rfl (decodeUpper_sub 0x3C#6 0x00#5 (by simp) (by simp) rfl rfl (by simp))

theorem subax (dest : BitVec 4) (fs ft : BitVec 5) : Statement (.subax dest fs ft) := fun _ _ _ =>
  decode_upper rfl (decodeUpper_sub 0x3C#6 0x01#5 (by simp) (by simp) rfl rfl (by simp))

theorem maddax (dest : BitVec 4) (fs ft : BitVec 5) : Statement (.maddax dest fs ft) := fun _ _ _ =>
  decode_upper rfl (decodeUpper_sub 0x3C#6 0x02#5 (by simp) (by simp) rfl rfl (by simp))

theorem msubax (dest : BitVec 4) (fs ft : BitVec 5) : Statement (.msubax dest fs ft) := fun _ _ _ =>
  decode_upper rfl (decodeUpper_sub 0x3C#6 0x03#5 (by simp) (by simp) rfl rfl (by simp))

theorem itof0 (dest : BitVec 4) (ft fs : BitVec 5) : Statement (.itof0 dest ft fs) := fun _ _ _ =>
  decode_upper rfl (decodeUpper_sub 0x3C#6 0x04#5 (by simp) (by simp) rfl rfl (by simp))

theorem ftoi0 (dest : BitVec 4) (ft fs : BitVec 5) : Statement (.ftoi0 dest ft fs) := fun _ _ _ =>
  decode_upper rfl (decodeUpper_sub 0x3C#6 0x05#5 (by simp) (by simp) rfl rfl (by simp))

theorem mulax (dest : BitVec 4) (fs ft : BitVec 5) : Statement (.mulax dest fs ft) := fun _ _ _ =>
  decode_upper rfl (decodeUpper_sub 0x3C#6 0x06#5 (by simp) (by simp) rfl rfl (by simp))

theorem mulaq (dest : BitVec 4) (fs : BitVec 5) : Statement (.mulaq dest fs) := fun _ _ _ =>
  decode_upper rfl (decodeUpper_sub 0x3C#6 0x07#5 (by simp) (by simp) rfl rfl (by simp))

theorem addaq (dest : BitVec 4) (fs : BitVec 5) : Statement (.addaq dest fs) := fun _ _ _ =>
  decode_upper rfl (decodeUpper_sub 0x3C#6 0x08#5 (by simp) (by simp) rfl rfl (by simp))

theorem subaq (dest : BitVec 4) (fs : BitVec 5) : Statement (.subaq dest fs) := fun _ _ _ =>
  decode_upper rfl (decodeUpper_sub 0x3C#6 0x09#5 (by simp) (by simp) rfl rfl (by simp))

theorem adda (dest : BitVec 4) (fs ft : BitVec 5) : Statement (.adda dest fs ft) := fun _ _ _ =>
  decode_upper rfl (decodeUpper_sub 0x3C#6 0x0A#5 (by simp) (by simp) rfl rfl (by simp))

theorem suba (dest : BitVec 4) (fs ft : BitVec 5) : Statement (.suba dest fs ft) := fun _ _ _ =>
  decode_upper rfl (decodeUpper_sub 0x3C#6 0x0B#5 (by simp) (by simp) rfl rfl (by simp))

theorem adday (dest : BitVec 4) (fs ft : BitVec 5) : Statement (.adday dest fs ft) := fun _ _ _ =>
  decode_upper rfl (decodeUpper_sub 0x3D#6 0x00#5 (by simp) (by simp) rfl rfl (by simp))

theorem subay (dest : BitVec 4) (fs ft : BitVec 5) : Statement (.subay dest fs ft) := fun _ _ _ =>
  decode_upper rfl (decodeUpper_sub 0x3D#6 0x01#5 (by simp) (by simp) rfl rfl (by simp))

theorem madday (dest : BitVec 4) (fs ft : BitVec 5) : Statement (.madday dest fs ft) := fun _ _ _ =>
  decode_upper rfl (decodeUpper_sub 0x3D#6 0x02#5 (by simp) (by simp) rfl rfl (by simp))

theorem msubay (dest : BitVec 4) (fs ft : BitVec 5) : Statement (.msubay dest fs ft) := fun _ _ _ =>
  decode_upper rfl (decodeUpper_sub 0x3D#6 0x03#5 (by simp) (by simp) rfl rfl (by simp))

theorem itof4 (dest : BitVec 4) (ft fs : BitVec 5) : Statement (.itof4 dest ft fs) := fun _ _ _ =>
  decode_upper rfl (decodeUpper_sub 0x3D#6 0x04#5 (by simp) (by simp) rfl rfl (by simp))

theorem ftoi4 (dest : BitVec 4) (ft fs : BitVec 5) : Statement (.ftoi4 dest ft fs) := fun _ _ _ =>
  decode_upper rfl (decodeUpper_sub 0x3D#6 0x05#5 (by simp) (by simp) rfl rfl (by simp))

theorem mulay (dest : BitVec 4) (fs ft : BitVec 5) : Statement (.mulay dest fs ft) := fun _ _ _ =>
  decode_upper rfl (decodeUpper_sub 0x3D#6 0x06#5 (by simp) (by simp) rfl rfl (by simp))

theorem abs (dest : BitVec 4) (ft fs : BitVec 5) : Statement (.abs dest ft fs) := fun _ _ _ =>
  decode_upper rfl (decodeUpper_sub 0x3D#6 0x07#5 (by simp) (by simp) rfl rfl (by simp))

theorem maddaq (dest : BitVec 4) (fs : BitVec 5) : Statement (.maddaq dest fs) := fun _ _ _ =>
  decode_upper rfl (decodeUpper_sub 0x3D#6 0x08#5 (by simp) (by simp) rfl rfl (by simp))

theorem msubaq (dest : BitVec 4) (fs : BitVec 5) : Statement (.msubaq dest fs) := fun _ _ _ =>
  decode_upper rfl (decodeUpper_sub 0x3D#6 0x09#5 (by simp) (by simp) rfl rfl (by simp))

theorem madda (dest : BitVec 4) (fs ft : BitVec 5) : Statement (.madda dest fs ft) := fun _ _ _ =>
  decode_upper rfl (decodeUpper_sub 0x3D#6 0x0A#5 (by simp) (by simp) rfl rfl (by simp))

theorem msuba (dest : BitVec 4) (fs ft : BitVec 5) : Statement (.msuba dest fs ft) := fun _ _ _ =>
  decode_upper rfl (decodeUpper_sub 0x3D#6 0x0B#5 (by simp) (by simp) rfl rfl (by simp))

theorem addaz (dest : BitVec 4) (fs ft : BitVec 5) : Statement (.addaz dest fs ft) := fun _ _ _ =>
  decode_upper rfl (decodeUpper_sub 0x3E#6 0x00#5 (by simp) (by simp) rfl rfl (by simp))

theorem subaz (dest : BitVec 4) (fs ft : BitVec 5) : Statement (.subaz dest fs ft) := fun _ _ _ =>
  decode_upper rfl (decodeUpper_sub 0x3E#6 0x01#5 (by simp) (by simp) rfl rfl (by simp))

theorem maddaz (dest : BitVec 4) (fs ft : BitVec 5) : Statement (.maddaz dest fs ft) := fun _ _ _ =>
  decode_upper rfl (decodeUpper_sub 0x3E#6 0x02#5 (by simp) (by simp) rfl rfl (by simp))

theorem msubaz (dest : BitVec 4) (fs ft : BitVec 5) : Statement (.msubaz dest fs ft) := fun _ _ _ =>
  decode_upper rfl (decodeUpper_sub 0x3E#6 0x03#5 (by simp) (by simp) rfl rfl (by simp))

theorem itof12 (dest : BitVec 4) (ft fs : BitVec 5) : Statement (.itof12 dest ft fs) := fun _ _ _ =>
  decode_upper rfl (decodeUpper_sub 0x3E#6 0x04#5 (by simp) (by simp) rfl rfl (by simp))

theorem ftoi12 (dest : BitVec 4) (ft fs : BitVec 5) : Statement (.ftoi12 dest ft fs) := fun _ _ _ =>
  decode_upper rfl (decodeUpper_sub 0x3E#6 0x05#5 (by simp) (by simp) rfl rfl (by simp))

theorem mulaz (dest : BitVec 4) (fs ft : BitVec 5) : Statement (.mulaz dest fs ft) := fun _ _ _ =>
  decode_upper rfl (decodeUpper_sub 0x3E#6 0x06#5 (by simp) (by simp) rfl rfl (by simp))

theorem mulai (dest : BitVec 4) (fs : BitVec 5) : Statement (.mulai dest fs) := fun _ _ _ =>
  decode_upper rfl (decodeUpper_sub 0x3E#6 0x07#5 (by simp) (by simp) rfl rfl (by simp))

theorem addai (dest : BitVec 4) (fs : BitVec 5) : Statement (.addai dest fs) := fun _ _ _ =>
  decode_upper rfl (decodeUpper_sub 0x3E#6 0x08#5 (by simp) (by simp) rfl rfl (by simp))

theorem subai (dest : BitVec 4) (fs : BitVec 5) : Statement (.subai dest fs) := fun _ _ _ =>
  decode_upper rfl (decodeUpper_sub 0x3E#6 0x09#5 (by simp) (by simp) rfl rfl (by simp))

theorem mula (dest : BitVec 4) (fs ft : BitVec 5) : Statement (.mula dest fs ft) := fun _ _ _ =>
  decode_upper rfl (decodeUpper_sub 0x3E#6 0x0A#5 (by simp) (by simp) rfl rfl (by simp))

theorem opmula (dest : BitVec 4) (fs ft : BitVec 5) : Statement (.opmula dest fs ft) := fun _ _ _ =>
  decode_upper rfl (decodeUpper_sub 0x3E#6 0x0B#5 (by simp) (by simp) rfl rfl (by simp))

theorem addaw (dest : BitVec 4) (fs ft : BitVec 5) : Statement (.addaw dest fs ft) := fun _ _ _ =>
  decode_upper rfl (decodeUpper_sub 0x3F#6 0x00#5 (by simp) (by simp) rfl rfl (by simp))

theorem subaw (dest : BitVec 4) (fs ft : BitVec 5) : Statement (.subaw dest fs ft) := fun _ _ _ =>
  decode_upper rfl (decodeUpper_sub 0x3F#6 0x01#5 (by simp) (by simp) rfl rfl (by simp))

theorem maddaw (dest : BitVec 4) (fs ft : BitVec 5) : Statement (.maddaw dest fs ft) := fun _ _ _ =>
  decode_upper rfl (decodeUpper_sub 0x3F#6 0x02#5 (by simp) (by simp) rfl rfl (by simp))

theorem msubaw (dest : BitVec 4) (fs ft : BitVec 5) : Statement (.msubaw dest fs ft) := fun _ _ _ =>
  decode_upper rfl (decodeUpper_sub 0x3F#6 0x03#5 (by simp) (by simp) rfl rfl (by simp))

theorem itof15 (dest : BitVec 4) (ft fs : BitVec 5) : Statement (.itof15 dest ft fs) := fun _ _ _ =>
  decode_upper rfl (decodeUpper_sub 0x3F#6 0x04#5 (by simp) (by simp) rfl rfl (by simp))

theorem ftoi15 (dest : BitVec 4) (ft fs : BitVec 5) : Statement (.ftoi15 dest ft fs) := fun _ _ _ =>
  decode_upper rfl (decodeUpper_sub 0x3F#6 0x05#5 (by simp) (by simp) rfl rfl (by simp))

theorem mulaw (dest : BitVec 4) (fs ft : BitVec 5) : Statement (.mulaw dest fs ft) := fun _ _ _ =>
  decode_upper rfl (decodeUpper_sub 0x3F#6 0x06#5 (by simp) (by simp) rfl rfl (by simp))

theorem clipw (dest : BitVec 4) (fs ft : BitVec 5) : Statement (.clipw dest fs ft) := fun _ _ _ =>
  decode_upper rfl (decodeUpper_sub 0x3F#6 0x07#5 (by simp) (by simp) rfl rfl (by simp))

theorem maddai (dest : BitVec 4) (fs : BitVec 5) : Statement (.maddai dest fs) := fun _ _ _ =>
  decode_upper rfl (decodeUpper_sub 0x3F#6 0x08#5 (by simp) (by simp) rfl rfl (by simp))

theorem msubai (dest : BitVec 4) (fs : BitVec 5) : Statement (.msubai dest fs) := fun _ _ _ =>
  decode_upper rfl (decodeUpper_sub 0x3F#6 0x09#5 (by simp) (by simp) rfl rfl (by simp))

theorem nop : Statement (.nop) := fun _ _ _ =>
  decode_upper rfl (decodeUpper_sub 0x3F#6 0x0B#5 (by simp) (by simp) rfl rfl rfl)

theorem lq (dest : BitVec 4) (ft : BitVec 5) (imm11 : BitVec 11) (is : BitVec 4) : Statement (.lq dest ft imm11 is) := fun _ _ _ =>
  decode_lower rfl (decodeLower_row 0x00#7 (by simp) (by decide) rfl (by simp))

theorem sq (dest : BitVec 4) (fs : BitVec 5) (imm11 : BitVec 11) (it : BitVec 4) : Statement (.sq dest fs imm11 it) := fun _ _ _ =>
  decode_lower rfl (decodeLower_row 0x01#7 (by simp) (by decide) rfl (by simp))

theorem ilw (dest it : BitVec 4) (imm11 : BitVec 11) (is : BitVec 4) : Statement (.ilw dest it imm11 is) := fun _ _ _ =>
  decode_lower rfl (decodeLower_row 0x04#7 (by simp) (by decide) rfl (by simp))

theorem isw (dest it : BitVec 4) (imm11 : BitVec 11) (is : BitVec 4) : Statement (.isw dest it imm11 is) := fun _ _ _ =>
  decode_lower rfl (decodeLower_row 0x05#7 (by simp) (by decide) rfl (by simp))

theorem iaddiu (it is : BitVec 4) (imm15 : BitVec 15) : Statement (.iaddiu it is imm15) := fun _ _ _ =>
  decode_lower rfl (decodeLower_row 0x08#7 (by simp) (by decide) rfl (by simp))

theorem isubiu (it is : BitVec 4) (imm15 : BitVec 15) : Statement (.isubiu it is imm15) := fun _ _ _ =>
  decode_lower rfl (decodeLower_row 0x09#7 (by simp) (by decide) rfl (by simp))

theorem fceq (imm24 : BitVec 24) : Statement (.fceq imm24) := fun _ _ _ =>
  decode_lower rfl (decodeLower_row 0x10#7 (by simp) (by decide) rfl (by simp))

theorem fcset (imm24 : BitVec 24) : Statement (.fcset imm24) := fun _ _ _ =>
  decode_lower rfl (decodeLower_row 0x11#7 (by simp) (by decide) rfl (by simp))

theorem fcand (imm24 : BitVec 24) : Statement (.fcand imm24) := fun _ _ _ =>
  decode_lower rfl (decodeLower_row 0x12#7 (by simp) (by decide) rfl (by simp))

theorem fcor (imm24 : BitVec 24) : Statement (.fcor imm24) := fun _ _ _ =>
  decode_lower rfl (decodeLower_row 0x13#7 (by simp) (by decide) rfl (by simp))

theorem fseq (it : BitVec 4) (imm12 : BitVec 12) : Statement (.fseq it imm12) := fun _ _ _ =>
  decode_lower rfl (decodeLower_row 0x14#7 (by simp) (by decide) rfl (by simp))

theorem fsset (imm12 : BitVec 12) : Statement (.fsset imm12) := fun _ _ _ =>
  decode_lower rfl (decodeLower_row 0x15#7 (by simp) (by decide) rfl (by simp))

theorem fsand (it : BitVec 4) (imm12 : BitVec 12) : Statement (.fsand it imm12) := fun _ _ _ =>
  decode_lower rfl (decodeLower_row 0x16#7 (by simp) (by decide) rfl (by simp))

theorem fsor (it : BitVec 4) (imm12 : BitVec 12) : Statement (.fsor it imm12) := fun _ _ _ =>
  decode_lower rfl (decodeLower_row 0x17#7 (by simp) (by decide) rfl (by simp))

theorem fmeq (it is : BitVec 4) : Statement (.fmeq it is) := fun _ _ _ =>
  decode_lower rfl (decodeLower_row 0x18#7 (by simp) (by decide) rfl (by simp))

theorem fmand (it is : BitVec 4) : Statement (.fmand it is) := fun _ _ _ =>
  decode_lower rfl (decodeLower_row 0x1A#7 (by simp) (by decide) rfl (by simp))

theorem fmor (it is : BitVec 4) : Statement (.fmor it is) := fun _ _ _ =>
  decode_lower rfl (decodeLower_row 0x1B#7 (by simp) (by decide) rfl (by simp))

theorem fcget (it : BitVec 4) : Statement (.fcget it) := fun _ _ _ =>
  decode_lower rfl (decodeLower_row 0x1C#7 (by simp) (by decide) rfl (by simp))

theorem b (imm11 : BitVec 11) : Statement (.b imm11) := fun _ _ _ =>
  decode_lower rfl (decodeLower_row 0x20#7 (by simp) (by decide) rfl (by simp))

theorem bal (it : BitVec 4) (imm11 : BitVec 11) : Statement (.bal it imm11) := fun _ _ _ =>
  decode_lower rfl (decodeLower_row 0x21#7 (by simp) (by decide) rfl (by simp))

theorem jr (is : BitVec 4) : Statement (.jr is) := fun _ _ _ =>
  decode_lower rfl (decodeLower_row 0x24#7 (by simp) (by decide) rfl (by simp))

theorem jalr (it is : BitVec 4) : Statement (.jalr it is) := fun _ _ _ =>
  decode_lower rfl (decodeLower_row 0x25#7 (by simp) (by decide) rfl (by simp))

theorem ibeq (it is : BitVec 4) (imm11 : BitVec 11) : Statement (.ibeq it is imm11) := fun _ _ _ =>
  decode_lower rfl (decodeLower_row 0x28#7 (by simp) (by decide) rfl (by simp))

theorem ibne (it is : BitVec 4) (imm11 : BitVec 11) : Statement (.ibne it is imm11) := fun _ _ _ =>
  decode_lower rfl (decodeLower_row 0x29#7 (by simp) (by decide) rfl (by simp))

theorem ibltz (is : BitVec 4) (imm11 : BitVec 11) : Statement (.ibltz is imm11) := fun _ _ _ =>
  decode_lower rfl (decodeLower_row 0x2C#7 (by simp) (by decide) rfl (by simp))

theorem ibgtz (is : BitVec 4) (imm11 : BitVec 11) : Statement (.ibgtz is imm11) := fun _ _ _ =>
  decode_lower rfl (decodeLower_row 0x2D#7 (by simp) (by decide) rfl (by simp))

theorem iblez (is : BitVec 4) (imm11 : BitVec 11) : Statement (.iblez is imm11) := fun _ _ _ =>
  decode_lower rfl (decodeLower_row 0x2E#7 (by simp) (by decide) rfl (by simp))

theorem ibgez (is : BitVec 4) (imm11 : BitVec 11) : Statement (.ibgez is imm11) := fun _ _ _ =>
  decode_lower rfl (decodeLower_row 0x2F#7 (by simp) (by decide) rfl (by simp))

theorem iadd (id is it : BitVec 4) : Statement (.iadd id is it) := fun _ _ _ =>
  decode_lower rfl (decodeLower_op 0x30#6 (by simp) ((lowerWord_sub6 ..).trans (bits_opcode_low ..)) rfl rfl (by simp))

theorem isub (id is it : BitVec 4) : Statement (.isub id is it) := fun _ _ _ =>
  decode_lower rfl (decodeLower_op 0x31#6 (by simp) ((lowerWord_sub6 ..).trans (bits_opcode_low ..)) rfl rfl (by simp))

theorem iaddi (it is : BitVec 4) (imm5 : BitVec 5) : Statement (.iaddi it is imm5) := fun _ _ _ =>
  decode_lower rfl (decodeLower_op 0x32#6 (by simp) ((lowerWord_sub6 ..).trans (bits_opcode_low ..)) rfl rfl (by simp))

theorem iand (id is it : BitVec 4) : Statement (.iand id is it) := fun _ _ _ =>
  decode_lower rfl (decodeLower_op 0x34#6 (by simp) ((lowerWord_sub6 ..).trans (bits_opcode_low ..)) rfl rfl (by simp))

theorem ior (id is it : BitVec 4) : Statement (.ior id is it) := fun _ _ _ =>
  decode_lower rfl (decodeLower_op 0x35#6 (by simp) ((lowerWord_sub6 ..).trans (bits_opcode_low ..)) rfl rfl (by simp))

theorem move (dest : BitVec 4) (ft fs : BitVec 5) : Statement (.move dest ft fs) := fun _ _ _ =>
  decode_lower rfl (decodeLower_sub 0x3C#6 0x0C#5 (by simp) ((lowerWord_sub6 ..).trans (bits_opcode_low ..))
    ((lowerWord_index ..).trans (bits_opcode_high ..)) rfl rfl (by simp))

theorem lqi (dest : BitVec 4) (ft : BitVec 5) (is : BitVec 4) : Statement (.lqi dest ft is) := fun _ _ _ =>
  decode_lower rfl (decodeLower_sub 0x3C#6 0x0D#5 (by simp) ((lowerWord_sub6 ..).trans (bits_opcode_low ..))
    ((lowerWord_index ..).trans (bits_opcode_high ..)) rfl rfl (by simp))

theorem div (fs : BitVec 5) (fsf : BitVec 2) (ft : BitVec 5) (ftf : BitVec 2) : Statement (.div fs fsf ft ftf) := fun _ _ _ =>
  decode_lower rfl (decodeLower_sub 0x3C#6 0x0E#5 (by simp) ((lowerWord_sub6 ..).trans (bits_opcode_low ..))
    ((lowerWord_index ..).trans (bits_opcode_high ..)) rfl rfl (by simp))

theorem mtir (it : BitVec 4) (fs : BitVec 5) (fsf : BitVec 2) : Statement (.mtir it fs fsf) := fun _ _ _ =>
  decode_lower rfl (decodeLower_sub 0x3C#6 0x0F#5 (by simp) ((lowerWord_sub6 ..).trans (bits_opcode_low ..))
    ((lowerWord_index ..).trans (bits_opcode_high ..)) rfl rfl (by simp))

theorem rnext (dest : BitVec 4) (ft : BitVec 5) : Statement (.rnext dest ft) := fun _ _ _ =>
  decode_lower rfl (decodeLower_sub 0x3C#6 0x10#5 (by simp) ((lowerWord_sub6 ..).trans (bits_opcode_low ..))
    ((lowerWord_index ..).trans (bits_opcode_high ..)) rfl rfl (by simp))

theorem mfp (dest : BitVec 4) (ft : BitVec 5) : Statement (.mfp dest ft) := fun _ _ _ =>
  decode_lower rfl (decodeLower_sub 0x3C#6 0x19#5 (by simp) ((lowerWord_sub6 ..).trans (bits_opcode_low ..))
    ((lowerWord_index ..).trans (bits_opcode_high ..)) rfl rfl (by simp))

theorem xtop (it : BitVec 4) : Statement (.xtop it) := fun _ _ _ =>
  decode_lower rfl (decodeLower_sub 0x3C#6 0x1A#5 (by simp) ((lowerWord_sub6 ..).trans (bits_opcode_low ..))
    ((lowerWord_index ..).trans (bits_opcode_high ..)) rfl rfl (by simp))

theorem xgkick (is : BitVec 4) : Statement (.xgkick is) := fun _ _ _ =>
  decode_lower rfl (decodeLower_sub 0x3C#6 0x1B#5 (by simp) ((lowerWord_sub6 ..).trans (bits_opcode_low ..))
    ((lowerWord_index ..).trans (bits_opcode_high ..)) rfl rfl (by simp))

theorem esadd (fs : BitVec 5) : Statement (.esadd fs) := fun _ _ _ =>
  decode_lower rfl (decodeLower_sub 0x3C#6 0x1C#5 (by simp) ((lowerWord_sub6 ..).trans (bits_opcode_low ..))
    ((lowerWord_index ..).trans (bits_opcode_high ..)) rfl rfl (by simp))

theorem eatanxy (fs : BitVec 5) : Statement (.eatanxy fs) := fun _ _ _ =>
  decode_lower rfl (decodeLower_sub 0x3C#6 0x1D#5 (by simp) ((lowerWord_sub6 ..).trans (bits_opcode_low ..))
    ((lowerWord_index ..).trans (bits_opcode_high ..)) rfl rfl (by simp))

theorem esqrt (fs : BitVec 5) (fsf : BitVec 2) : Statement (.esqrt fs fsf) := fun _ _ _ =>
  decode_lower rfl (decodeLower_sub 0x3C#6 0x1E#5 (by simp) ((lowerWord_sub6 ..).trans (bits_opcode_low ..))
    ((lowerWord_index ..).trans (bits_opcode_high ..)) rfl rfl (by simp))

theorem esin (fs : BitVec 5) (fsf : BitVec 2) : Statement (.esin fs fsf) := fun _ _ _ =>
  decode_lower rfl (decodeLower_sub 0x3C#6 0x1F#5 (by simp) ((lowerWord_sub6 ..).trans (bits_opcode_low ..))
    ((lowerWord_index ..).trans (bits_opcode_high ..)) rfl rfl (by simp))

theorem mr32 (dest : BitVec 4) (ft fs : BitVec 5) : Statement (.mr32 dest ft fs) := fun _ _ _ =>
  decode_lower rfl (decodeLower_sub 0x3D#6 0x0C#5 (by simp) ((lowerWord_sub6 ..).trans (bits_opcode_low ..))
    ((lowerWord_index ..).trans (bits_opcode_high ..)) rfl rfl (by simp))

theorem sqi (dest : BitVec 4) (fs : BitVec 5) (it : BitVec 4) : Statement (.sqi dest fs it) := fun _ _ _ =>
  decode_lower rfl (decodeLower_sub 0x3D#6 0x0D#5 (by simp) ((lowerWord_sub6 ..).trans (bits_opcode_low ..))
    ((lowerWord_index ..).trans (bits_opcode_high ..)) rfl rfl (by simp))

theorem sqrt (ft : BitVec 5) (ftf : BitVec 2) : Statement (.sqrt ft ftf) := fun _ _ _ =>
  decode_lower rfl (decodeLower_sub 0x3D#6 0x0E#5 (by simp) ((lowerWord_sub6 ..).trans (bits_opcode_low ..))
    ((lowerWord_index ..).trans (bits_opcode_high ..)) rfl rfl (by simp))

theorem mfir (dest : BitVec 4) (ft : BitVec 5) (is : BitVec 4) : Statement (.mfir dest ft is) := fun _ _ _ =>
  decode_lower rfl (decodeLower_sub 0x3D#6 0x0F#5 (by simp) ((lowerWord_sub6 ..).trans (bits_opcode_low ..))
    ((lowerWord_index ..).trans (bits_opcode_high ..)) rfl rfl (by simp))

theorem rget (dest : BitVec 4) (ft : BitVec 5) : Statement (.rget dest ft) := fun _ _ _ =>
  decode_lower rfl (decodeLower_sub 0x3D#6 0x10#5 (by simp) ((lowerWord_sub6 ..).trans (bits_opcode_low ..))
    ((lowerWord_index ..).trans (bits_opcode_high ..)) rfl rfl (by simp))

theorem xitop (it : BitVec 4) : Statement (.xitop it) := fun _ _ _ =>
  decode_lower rfl (decodeLower_sub 0x3D#6 0x1A#5 (by simp) ((lowerWord_sub6 ..).trans (bits_opcode_low ..))
    ((lowerWord_index ..).trans (bits_opcode_high ..)) rfl rfl (by simp))

theorem ersadd (fs : BitVec 5) : Statement (.ersadd fs) := fun _ _ _ =>
  decode_lower rfl (decodeLower_sub 0x3D#6 0x1C#5 (by simp) ((lowerWord_sub6 ..).trans (bits_opcode_low ..))
    ((lowerWord_index ..).trans (bits_opcode_high ..)) rfl rfl (by simp))

theorem eatanxz (fs : BitVec 5) : Statement (.eatanxz fs) := fun _ _ _ =>
  decode_lower rfl (decodeLower_sub 0x3D#6 0x1D#5 (by simp) ((lowerWord_sub6 ..).trans (bits_opcode_low ..))
    ((lowerWord_index ..).trans (bits_opcode_high ..)) rfl rfl (by simp))

theorem ersqrt (fs : BitVec 5) (fsf : BitVec 2) : Statement (.ersqrt fs fsf) := fun _ _ _ =>
  decode_lower rfl (decodeLower_sub 0x3D#6 0x1E#5 (by simp) ((lowerWord_sub6 ..).trans (bits_opcode_low ..))
    ((lowerWord_index ..).trans (bits_opcode_high ..)) rfl rfl (by simp))

theorem eatan (fs : BitVec 5) (fsf : BitVec 2) : Statement (.eatan fs fsf) := fun _ _ _ =>
  decode_lower rfl (decodeLower_sub 0x3D#6 0x1F#5 (by simp) ((lowerWord_sub6 ..).trans (bits_opcode_low ..))
    ((lowerWord_index ..).trans (bits_opcode_high ..)) rfl rfl (by simp))

theorem lqd (dest : BitVec 4) (ft : BitVec 5) (is : BitVec 4) : Statement (.lqd dest ft is) := fun _ _ _ =>
  decode_lower rfl (decodeLower_sub 0x3E#6 0x0D#5 (by simp) ((lowerWord_sub6 ..).trans (bits_opcode_low ..))
    ((lowerWord_index ..).trans (bits_opcode_high ..)) rfl rfl (by simp))

theorem rsqrt (fs : BitVec 5) (fsf : BitVec 2) (ft : BitVec 5) (ftf : BitVec 2) : Statement (.rsqrt fs fsf ft ftf) := fun _ _ _ =>
  decode_lower rfl (decodeLower_sub 0x3E#6 0x0E#5 (by simp) ((lowerWord_sub6 ..).trans (bits_opcode_low ..))
    ((lowerWord_index ..).trans (bits_opcode_high ..)) rfl rfl (by simp))

theorem ilwr (dest it is : BitVec 4) : Statement (.ilwr dest it is) := fun _ _ _ =>
  decode_lower rfl (decodeLower_sub 0x3E#6 0x0F#5 (by simp) ((lowerWord_sub6 ..).trans (bits_opcode_low ..))
    ((lowerWord_index ..).trans (bits_opcode_high ..)) rfl rfl (by simp))

theorem rinit (fs : BitVec 5) (fsf : BitVec 2) : Statement (.rinit fs fsf) := fun _ _ _ =>
  decode_lower rfl (decodeLower_sub 0x3E#6 0x10#5 (by simp) ((lowerWord_sub6 ..).trans (bits_opcode_low ..))
    ((lowerWord_index ..).trans (bits_opcode_high ..)) rfl rfl (by simp))

theorem eleng (fs : BitVec 5) : Statement (.eleng fs) := fun _ _ _ =>
  decode_lower rfl (decodeLower_sub 0x3E#6 0x1C#5 (by simp) ((lowerWord_sub6 ..).trans (bits_opcode_low ..))
    ((lowerWord_index ..).trans (bits_opcode_high ..)) rfl rfl (by simp))

theorem esum (fs : BitVec 5) : Statement (.esum fs) := fun _ _ _ =>
  decode_lower rfl (decodeLower_sub 0x3E#6 0x1D#5 (by simp) ((lowerWord_sub6 ..).trans (bits_opcode_low ..))
    ((lowerWord_index ..).trans (bits_opcode_high ..)) rfl rfl (by simp))

theorem ercpr (fs : BitVec 5) (fsf : BitVec 2) : Statement (.ercpr fs fsf) := fun _ _ _ =>
  decode_lower rfl (decodeLower_sub 0x3E#6 0x1E#5 (by simp) ((lowerWord_sub6 ..).trans (bits_opcode_low ..))
    ((lowerWord_index ..).trans (bits_opcode_high ..)) rfl rfl (by simp))

theorem eexp (fs : BitVec 5) (fsf : BitVec 2) : Statement (.eexp fs fsf) := fun _ _ _ =>
  decode_lower rfl (decodeLower_sub 0x3E#6 0x1F#5 (by simp) ((lowerWord_sub6 ..).trans (bits_opcode_low ..))
    ((lowerWord_index ..).trans (bits_opcode_high ..)) rfl rfl (by simp))

theorem sqd (dest : BitVec 4) (fs : BitVec 5) (it : BitVec 4) : Statement (.sqd dest fs it) := fun _ _ _ =>
  decode_lower rfl (decodeLower_sub 0x3F#6 0x0D#5 (by simp) ((lowerWord_sub6 ..).trans (bits_opcode_low ..))
    ((lowerWord_index ..).trans (bits_opcode_high ..)) rfl rfl (by simp))

theorem waitq : Statement (.waitq) := fun _ _ _ =>
  decode_lower rfl (decodeLower_sub 0x3F#6 0x0E#5 (by simp) ((lowerWord_sub6 ..).trans (bits_opcode_low ..))
    ((lowerWord_index ..).trans (bits_opcode_high ..)) rfl rfl rfl)

theorem iswr (dest it is : BitVec 4) : Statement (.iswr dest it is) := fun _ _ _ =>
  decode_lower rfl (decodeLower_sub 0x3F#6 0x0F#5 (by simp) ((lowerWord_sub6 ..).trans (bits_opcode_low ..))
    ((lowerWord_index ..).trans (bits_opcode_high ..)) rfl rfl (by simp))

theorem rxor (fs : BitVec 5) (fsf : BitVec 2) : Statement (.rxor fs fsf) := fun _ _ _ =>
  decode_lower rfl (decodeLower_sub 0x3F#6 0x10#5 (by simp) ((lowerWord_sub6 ..).trans (bits_opcode_low ..))
    ((lowerWord_index ..).trans (bits_opcode_high ..)) rfl rfl (by simp))

theorem erleng (fs : BitVec 5) : Statement (.erleng fs) := fun _ _ _ =>
  decode_lower rfl (decodeLower_sub 0x3F#6 0x1C#5 (by simp) ((lowerWord_sub6 ..).trans (bits_opcode_low ..))
    ((lowerWord_index ..).trans (bits_opcode_high ..)) rfl rfl (by simp))

theorem waitp : Statement (.waitp) := fun _ _ _ =>
  decode_lower rfl (decodeLower_sub 0x3F#6 0x1E#5 (by simp) ((lowerWord_sub6 ..).trans (bits_opcode_low ..))
    ((lowerWord_index ..).trans (bits_opcode_high ..)) rfl rfl rfl)

theorem pushsnapshot : Statement .pushsnapshot := fun _ hp _ =>
  decode_packet rfl (kindOf_tag hp).1 rfl rfl

theorem setregisters (payload : List Byte) : Statement (.setregisters payload) := fun _ hp hw =>
  decode_packet rfl (kindOf_tag hp).2.1 (by simpa [Instr.wf, Params.payloadLength] using hw) rfl

theorem setmemory (payload : List Byte) : Statement (.setmemory payload) := fun _ hp hw =>
  decode_packet rfl (kindOf_tag hp).2.2.1 (by simpa [Instr.wf, Params.payloadLength] using hw) rfl

theorem setinstructions (payload : List Byte) : Statement (.setinstructions payload) := fun _ hp hw =>
  decode_packet rfl (kindOf_tag hp).2.2.2.1 (by simpa [Instr.wf, Params.payloadLength] using hw) rfl

theorem loadop (addr size : Word) : Statement (.loadop addr size) := fun _ hp _ =>
  decode_packet rfl (kindOf_tag hp).2.2.2.2.1 (by simp [Params.payloadLength])
    (by simp [packetOf, le32_leBytes_append, le32_leBytes])

theorem storeop (addr size : Word) : Statement (.storeop addr size) := fun _ hp _ =>
  decode_packet rfl (kindOf_tag hp).2.2.2.2.2 (by simp [Params.payloadLength])
    (by simp [packetOf, le32_leBytes_append, le32_leBytes])

end Sys2Proof.Laws.RoundTrip
end

