-- ==== Sys2Proof/Tests/Slice0.lean ====
section
/-! SUPPORT. The model's own tests: the WellFormed smoke test, decoding by words written from the encodings, single steps of
each unit against the vectors of 95_test_vectors, and for every statement with hypotheses a witness that meets them. -/

namespace Sys2Proof.Tests

open Sys2Proof.Machine

-- the kernel evaluates these theorems one at a time: many at once would hold many threads
set_option Elab.async false

/-! ### Builders of small states -/

/-- The reset state with one call queued. -/
def queued (q : Request) : State := { State.reset with requests := [q] }

/-- A trace being read, at a cursor. -/
def tracing (stream : List Byte) (cursor : Nat) : State :=
  { State.reset with active := .trace, tsr := { Tsr.start stream with cursor := cursor } }

/-- A GS decode in progress. -/
def decoding (g : Gpd) : State := { State.reset with active := .packet, gpd := g }

/-- A snapshot whose register block is zero but for the captured program counter (R35, offset 928). -/
def atPc (pc : Nat) : Snapshot := { Snapshot.empty with regs := Image.ofBytesFrom 928 (leBytes 4 pc), regsValid := true }

/-- A snapshot with a data image that holds the bytes given from an offset on. -/
def withData (off : Nat) (bytes : List Byte) : Snapshot :=
  { Snapshot.empty with dmem := Image.ofBytesFrom off bytes, dmemValid := true }

/-- A snapshot with a program image that holds the bytes given from an offset on. -/
def withProgram (off : Nat) (bytes : List Byte) : Snapshot :=
  { Snapshot.empty with imem := Image.ofBytesFrom off bytes, imemValid := true }

/-- The next state of an outcome that is one. -/
def next? {φ ρ : Type} : Host.Outcome State φ ρ → Option State
  | .next t => some t
  | _ => none

/-- The refusal of an outcome that is one. -/
def refusal? {σ φ : Type} : Host.Outcome σ φ Refusal → Option Refusal
  | .refused r => some r
  | _ => none

/-- What one step leaves, as far as `f` reads it. -/
def after {α : Type} (s : State) (f : State → α) : Option α := (next? (step s)).map f

/-! ### WellFormed: each check refuses an ill-formed term (R118) -/

theorem test_wf_refuses_a_short_register_block :
    (Instr.setregisters (List.replicate 1023 0)).wf Params.suggested = false := by decide +kernel
theorem test_wf_accepts_a_register_block :
    (Instr.setregisters (List.replicate 1024 0)).wf Params.suggested = true := by decide +kernel
theorem test_wf_refuses_a_long_memory_payload :
    (Instr.setmemory (List.replicate 16385 0)).wf Params.suggested = false := by decide +kernel
theorem test_wf_accepts_a_memory_payload :
    (Instr.setmemory (List.replicate 16384 0)).wf Params.suggested = true := by decide +kernel
theorem test_wf_refuses_an_empty_program_payload : (Instr.setinstructions []).wf Params.suggested = false := by decide
theorem test_wf_accepts_a_program_payload :
    (Instr.setinstructions (List.replicate 16384 0)).wf Params.suggested = true := by decide +kernel

/-! ### Decoding: one word a class of 30 R92 and R94, written out field by field from the class's layout -/

-- U_BC: 0000000 dest ft fs fd bc-opcode; dest = xyzw, ft = 2, fs = 1, fd = 3, opcode 000000 (R200)
theorem test_decode_u_bc : decodeUpper 0b0000000_1111_00010_00001_00011_000000 = .ok (.addx 0xF 3 1 2) := by decide
-- U_Q: dest = x, ft ignored, fs = 5, fd = 4, opcode 011100 (R228)
theorem test_decode_u_q : decodeUpper 0b0000000_1000_00000_00101_00100_011100 = .ok (.mulq 0x8 4 5) := by decide
-- U_I: dest = xy, fs = 30, fd = 31, opcode 011101 (R229)
theorem test_decode_u_i : decodeUpper 0b0000000_1100_00000_11110_11111_011101 = .ok (.maxi 0xC 31 30) := by decide
-- U_3: fd = 1, fs = 2, ft = 3, opcode 101000 (R240)
theorem test_decode_u_3 : decodeUpper 0b0000000_1111_00011_00010_00001_101000 = .ok (.add 0xF 1 2 3) := by decide
-- U_ACC_BC: table FD_0, slot 00000, bits 5:2 = 1111, bc = 00 (R248)
theorem test_decode_u_acc_bc : decodeUpper 0b0000000_1111_00010_00001_00000_111100 = .ok (.addax 0xF 1 2) := by decide
-- U_CVT: table FD_0, slot 00100; the destination is ft (R252)
theorem test_decode_u_cvt : decodeUpper 0b0000000_1111_00100_00101_00100_111100 = .ok (.itof0 0xF 4 5) := by decide
-- U_ACC_Q: table FD_0, slot 00111, dest = w, fs = 7 (R255)
theorem test_decode_u_acc_q : decodeUpper 0b0000000_0001_00000_00111_00111_111100 = .ok (.mulaq 0x1 7) := by decide
-- U_ACC_I: table FD_2, slot 00111, dest = z, fs = 9 (R279)
theorem test_decode_u_acc_i : decodeUpper 0b0000000_0010_00000_01001_00111_111110 = .ok (.mulai 0x2 9) := by decide
-- U_ACC_3: table FD_2, slot 01011, dest = xyz, fs = 1, ft = 2 (R283)
theorem test_decode_u_acc_3 : decodeUpper 0b0000000_1110_00010_00001_01011_111110 = .ok (.opmula 0xE 1 2) := by decide
-- U_CLIP: table FD_3, slot 00111 (R291)
theorem test_decode_u_clip : decodeUpper 0b0000000_1110_00010_00001_00111_111111 = .ok (.clipw 0xE 1 2) := by decide
-- U_NOP: table FD_3, slot 01011 (R294)
theorem test_decode_u_nop : decodeUpper 0b0000000_0000_00000_00000_01011_111111 = .ok .nop := by decide
-- L_MEM: opcode 0000000, ft = 1, is = 2, imm11 = -16 (R300)
theorem test_decode_l_mem : decodeLower 0b0000000_1111_00001_00010_11111110000 = .ok (.lq 0xF 1 0x7F0 2) := by decide
-- L_IMM15: opcode 0001000, imm15[14:11] = 0010, it = 2, is = 1, imm15[10:0] = 0x234 (R304)
theorem test_decode_l_imm15 : decodeLower 0b0001000_0010_00010_00001_01000110100 = .ok (.iaddiu 2 1 0x1234) := by decide
-- L_IMM24: opcode 0010001 (R307)
theorem test_decode_l_imm24 : decodeLower 0b0010001_0_100000000000000000000001 = .ok (.fcset 0x800001) := by decide
-- L_IMM12: opcode 0010110, imm12[11] in bit 21, it = 1 (R312)
theorem test_decode_l_imm12 : decodeLower 0b0010110_0001_00001_00000_11111111111 = .ok (.fsand 1 0xFFF) := by decide
-- L_REG2: opcode 0011010, it = 4, is = 5 (R315)
theorem test_decode_l_reg2 : decodeLower 0b0011010_0000_00100_00101_00000000000 = .ok (.fmand 4 5) := by decide
-- L_REG1: opcode 0100100, is = 15 (R320)
theorem test_decode_l_reg1 : decodeLower 0b0100100_0000_00000_01111_00000000000 = .ok (.jr 15) := by decide
-- L_BR: opcode 0101001, it = 1, is = 2, imm11 = -3 (R323)
theorem test_decode_l_br : decodeLower 0b0101001_0000_00001_00010_11111111101 = .ok (.ibne 1 2 0x7FD) := by decide
-- L_OP3: opcode 1000000, low six bits 110000, it = 2, is = 1, id = 3 (R328)
theorem test_decode_l_op3 : decodeLower 0b1000000_0000_00010_00001_00011_110000 = .ok (.iadd 3 1 2) := by decide
-- L_OPI5: low six bits 110010, it = 1, is = 1, imm5 = -16 (R330)
theorem test_decode_l_opi5 : decodeLower 0b1000000_0000_00001_00001_10000_110010 = .ok (.iaddi 1 1 0x10) := by decide
-- L_SP_MOVE: table T3_0, slot 01100, ft = 2, fs = 1 (R333)
theorem test_decode_l_sp_move : decodeLower 0b1000000_1111_00010_00001_01100_111100 = .ok (.move 0xF 2 1) := by decide
-- L_SP_LSI: table T3_0, slot 01101, ft = 3, is = 4 (R334)
theorem test_decode_l_sp_lsi : decodeLower 0b1000000_1111_00011_00100_01101_111100 = .ok (.lqi 0xF 3 4) := by decide
-- L_SP_FDIV: table T3_0, slot 01110, ftf = 11, fsf = 01, ft = 2, fs = 1 (R335)
theorem test_decode_l_sp_fdiv : decodeLower 0b1000000_1101_00010_00001_01110_111100 = .ok (.div 1 1 2 3) := by decide
-- L_SP_REG: table T3_0, slot 11011, is = 5 (R340)
theorem test_decode_l_sp_reg : decodeLower 0b1000000_0000_00000_00101_11011_111100 = .ok (.xgkick 5) := by decide
-- L_SP_EFU: table T3_2, slot 11101, fs = 6 (R360)
theorem test_decode_l_sp_efu : decodeLower 0b1000000_0000_00000_00110_11101_111110 = .ok (.esum 6) := by decide
-- L_SP_EFU1: table T3_2, slot 11111, fs = 6, fsf = 10 (R362)
theorem test_decode_l_sp_efu1 : decodeLower 0b1000000_0010_00000_00110_11111_111110 = .ok (.eexp 6 2) := by decide
-- L_SP_NONE: table T3_3, slot 11110 (R368)
theorem test_decode_l_sp_none : decodeLower 0b1000000_0000_00000_00000_11110_111111 = .ok .waitp := by decide
-- the trace packets of R118: tag, then two little-endian words
theorem test_decode_loadop :
    decodePacket Params.suggested [0x4C, 0x40, 0x30, 0x20, 0x10, 4, 0, 0, 0, 0x50] = .ok (.loadop 0x10203040 4, [0x50]) := by
  decide
theorem test_decode_storeop :
    decodePacket Params.suggested [0x53, 0, 2, 0, 0, 7, 0, 0, 0] = .ok (.storeop 0x200 7, []) := by decide
theorem test_decode_pushsnapshot : decodePacket Params.suggested [0x50, 0x50] = .ok (.pushsnapshot, [0x50]) := by decide
-- the lengths of R118, read with another register size (P5): 640 bytes, and the next byte is the next tag
theorem test_decode_setregisters_p5 :
    (match decodePacket { Params.suggested with sregBytes := 4 } (0x52 :: List.replicate 640 9 ++ [0x50]) with
      | .ok (.setregisters payload, rest) => decide (payload = List.replicate 640 9 ∧ rest = [0x50])
      | _ => false) = true := by decide +kernel
theorem test_decode_setmemory :
    (match decodePacket Params.suggested (0x4D :: List.replicate 16384 1) with
      | .ok (.setmemory payload, rest) => payload.length == 16384 && rest.isEmpty
      | _ => false) = true := by decide +kernel
theorem test_decode_setinstructions :
    (match decodePacket Params.suggested (0x49 :: List.replicate 16385 1) with
      | .ok (.setinstructions payload, rest) => payload.length == 16384 && rest == [1]
      | _ => false) = true := by decide +kernel
theorem test_decode_table_words :
    decodeTableWord 32 0x01E208C0 = some (.addx 0xF 3 1 2) ∧ decodeTableWord 32 0x400007FF = some (.b 0x7FF) := by decide

/-! ### BFX: 95_test_vectors section 2 -/

theorem test_extract_vectors :
    extract 0xFFFFFFFFFFFFFFFF 0 63 = some 0xFFFFFFFFFFFFFFFF ∧ extract 0x0123456789ABCDEF 0 31 = some 0x89ABCDEF
      ∧ extract 0x0123456789ABCDEF 32 63 = some 0x1234567 ∧ extract 0x0123456789ABCDEF 4 7 = some 0xE
      ∧ extract 0x0123456789ABCDEF 63 63 = some 0 ∧ extract 0x8000000000000000 63 63 = some 1
      ∧ extract 0x0123456789ABCDEF 8 39 = some 0x6789ABCD ∧ extract 0x1000000000008001 60 63 = some 1
      ∧ extract 0x1000000000008001 0 14 = some 1 ∧ extract 0x1000000000008001 15 15 = some 1 := by decide
theorem test_extract_refusals :
    refusal? (step (queued (.extract 0x0123456789ABCDEF 5 4))) = some .badBounds
      ∧ refusal? (step (queued (.extract 0x0123456789ABCDEF 0 64))) = some .badBounds := by decide

/-! ### IDEC: fields, flags and pairs (95_test_vectors 3.6 and 3.7) -/

theorem test_fields_of_an_upper_word :
    (Fields.ofUpper 0x01E208C0).dest = 0xF ∧ (Fields.ofUpper 0x01E208C0).ft = 2 ∧ (Fields.ofUpper 0x01E208C0).fs = 1
      ∧ (Fields.ofUpper 0x01E208C0).fd = 3 ∧ (Fields.ofUpper 0x01E208C0).bc = 0
      ∧ (Fields.ofUpper 0x01E208C0).target = none := by decide
theorem test_fields_of_a_branch :
    (Fields.ofLower 0x520117FD 0x40).imm11 = -3 ∧ (Fields.ofLower 0x520117FD 0x40).target = some 0x30
      ∧ (Fields.ofLower 0x520117FD 0x40).it = 1 ∧ (Fields.ofLower 0x520117FD 0x40).is = 2 := by decide
theorem test_pair_end_bit :
    after (queued (.decodePair 0x8000033C 0x400002FF 0x18)) (fun t =>
        (t.idec.lowerRes.map PairLower.text, t.idec.upperRes.map WordResult.text, t.idec.flags))
      = some (some "MOVE vf0, vf0", some "NOP", some { i := false, e := true, m := false, d := false, t := false }) := by
  decide +kernel
theorem test_pair_all_flags :
    after (queued (.decodePair 0x8000033C 0xF80002FF 0)) (fun t => (t.idec.flags, t.idec.upperRes.map WordResult.text))
      = some (some { i := true, e := true, m := true, d := true, t := true }, some "NOP") := by decide +kernel
-- the hazard of R548: with I = 1 a word that would be a branch is a float literal, whose text stays open (log 6)
theorem test_pair_literal :
    (match step (queued (.decodePair 0x400007FF 0x81E01062 0x100)) with
      | .next t => (match t.idec.lowerRes with
          | some (.immFloat bits _) => decide (bits = 0x400007FF)
          | _ => false) && decide (t.idec.upperRes.map WordResult.text = some "ADDi.xyzw vf1, vf2, I")
      | _ => false) = true := by decide +kernel
-- the third row of 3.6: the I bit is honoured even where the upper word is the sentinel
theorem test_pair_literal_beside_the_sentinel :
    (match step (queued (.decodePair 0x3F800000 0x8000003A 0)) with
      | .next t => (match t.idec.lowerRes with
          | some (.immFloat bits _) => decide (bits = 0x3F800000)
          | _ => false) && decide (t.idec.upperRes = some .bad)
      | _ => false) = true := by decide +kernel
-- P1 at 0x10: IBNE vi1, vi0, 0x8 beside NOP, read from the image (R72, R173)
theorem test_pair_at :
    after (queued (.decodePairAt (.supplied (withProgram 0x10 [0xFE, 0x07, 0x01, 0x52, 0xFF, 0x02])) 0x10)) (fun t =>
        (t.idec.lowerRes.map PairLower.text, t.idec.upperRes.map WordResult.text))
      = some (some "IBNE vi1, vi0, 0x8", some "NOP") := by decide +kernel
theorem test_pair_at_refusals :
    refusal? (step (queued (.decodePairAt (.supplied (withProgram 0 [])) 0x14))) = some .badFetch
      ∧ refusal? (step (queued (.decodePairAt (.supplied (withProgram 0 [])) 0x4000))) = some .badFetch
      ∧ refusal? (step (queued (.decodePairAt (.supplied Snapshot.empty) 0))) = some .badFetch
      ∧ refusal? (step (queued (.decodePairAt (.committed 0) 0))) = some .noSnapshot := by decide

/-! ### The six packets, one step each (R455 to R460) -/

theorem test_push_clears_the_pending_fields :
    (next? (exec .pushsnapshot { tracing [0x50] 0 with tsr := { Tsr.start [0x50] with
        acc := { Snapshot.empty with pendingLoad := some ⟨0x40, 16⟩, pendingStore := some ⟨0x80, 4⟩ } } })).map (fun t =>
        (t.tsr.acc.pendingLoad, t.tsr.acc.pendingStore, t.tsr.snapshots.map Snapshot.pendingLoad, t.exh.fault))
      = some (none, none, [some ⟨0x40, 16⟩], some (.pcUnavailable 0)) := by decide
theorem test_push_counts_the_pc :
    (next? (exec .pushsnapshot { tracing [0x50] 0 with tsr := { Tsr.start [0x50] with acc := atPc 0x3FF8 } })).map (fun t =>
        (t.exh.prevPc, (t.exh.record 2047).timesExecuted, (t.exh.record 2047).executed, (t.exh.record 0).executed))
      = some (some 0x3FF8, 1, true, false) := by decide +kernel
theorem test_setregisters_keeps_the_rest :
    (next? (exec (.setregisters [1, 2]) (tracing [] 0))).map (fun t =>
        (t.tsr.acc.regsValid, Image.byte t.tsr.acc.regs 1, t.tsr.acc.dmemValid, t.tsr.acc.imemValid))
      = some (true, 2, false, false) := by decide
theorem test_setmemory_replaces_the_whole_image :
    (next? (exec (.setmemory [0, 7]) { tracing [] 0 with tsr := { Tsr.start [] with acc := withData 0 [5, 6] } })).map
        (fun t => (t.tsr.acc.dmem, t.tsr.acc.dmemValid, t.tsr.acc.imemValid)) = some ([(1, 7)], true, false) := by decide
theorem test_setinstructions_writes_imem :
    (next? (exec (.setinstructions [3]) (tracing [] 0))).map (fun t => (t.tsr.acc.imem, t.tsr.acc.imemValid,
        t.tsr.acc.dmemValid)) = some ([(0, 3)], true, false) := by decide
theorem test_loadop_replaces :
    (next? (exec (.loadop 2 3) { tracing [] 0 with tsr := { Tsr.start [] with
        acc := { Snapshot.empty with pendingLoad := some ⟨1, 1⟩ } } })).map (fun t =>
          (t.tsr.acc.pendingLoad, t.tsr.acc.pendingStore)) = some (some ⟨2, 3⟩, none) := by decide
theorem test_storeop_is_not_loadop :
    (next? (exec (.storeop 0x200 7) (tracing [] 0))).map (fun t => (t.tsr.acc.pendingLoad, t.tsr.acc.pendingStore))
      = some (none, some ⟨0x200, 7⟩) := by decide

/-! ### TSR, one step each: T1, T6, T7, T8, T11 -/

theorem test_trace_empty : after (tracing [] 0) (fun t => (t.active, t.tsr.status)) = some (.idle, .done) := by decide
theorem test_trace_bad_tag :
    after (tracing [0x50, 0xFF] 1) (fun t => (t.active, t.traceResult)) = some (.idle, some (.fatal (.badTag 0xFF 1))) := by
  decide
theorem test_trace_truncated :
    after (tracing [0x4C, 1, 2, 3] 0) (fun t => t.tsr.status) = some (.fatal (.truncated 0x4C 0 8 3)) := by decide
theorem test_trace_truncated_lone_tag :
    after (tracing [0x4D] 0) (fun t => t.tsr.status) = some (.fatal (.truncated 0x4D 0 16384 0)) := by decide
theorem test_trace_cursor_moves :
    after (tracing [0x50, 0x4C, 1, 0, 0, 0, 2, 0, 0, 0, 0x50] 1) (fun t => (t.tsr.cursor, t.tsr.acc.pendingLoad))
      = some (10, some ⟨1, 2⟩) := by decide

/-! ### EXH, one commit each: E2, E3, E4, E5, E7 -/

/-- The history after one commit of `pc`, the one before it at `prev`. -/
def edgeHistory (prev pc : Nat) : Exh :=
  ((Exh.reset.countPc (BitVec.ofNat 32 prev)).onCommit Params.suggested (atPc pc) 1).getD Exh.reset

theorem test_history_fall_through :
    (edgeHistory 0 8).record 0 = { executed := true, timesExecuted := 1, branchTo := [], branchFrom := [] }
      ∧ ((edgeHistory 0 8).record 1).branchFrom = [] := by decide +kernel
theorem test_history_backward_edge :
    ((edgeHistory 0x10 8).record 2).branchTo = [(8, 1)] ∧ ((edgeHistory 0x10 8).record 1).branchFrom = [(0x10, 1)] := by
  decide +kernel
theorem test_history_self_loop : (edgeHistory 0x20 0x20).record 4
    = { executed := true, timesExecuted := 2, branchTo := [(0x20, 1)], branchFrom := [(0x20, 1)] } := by decide +kernel
theorem test_history_wrap_is_an_edge : ((edgeHistory 0x3FF8 0).record 2047).branchTo = [(0, 1)]
    ∧ ((edgeHistory 0x3FF8 0).record 0).branchFrom = [(0x3FF8, 1)] := by decide +kernel
theorem test_history_unaligned : (edgeHistory 0x100 0x104).record 32
    = { executed := true, timesExecuted := 2, branchTo := [(0x104, 1)], branchFrom := [(0x100, 1)] } := by decide +kernel
theorem test_history_out_of_range : (edgeHistory 0 0x4000).fault = some (.pcOutOfRange 0x4000 1)
    ∧ ((edgeHistory 0 0x4000).record 0).timesExecuted = 1 := by decide +kernel

/-! ### GPD, one beat each: G1, G4, G7, G9, G10, G11, G12 -/

/-- A tag beat from its two halves. -/
def beat (lo hi : DWord) : List Byte := leBytes 8 lo.toNat ++ leBytes 8 hi.toNat

/-- A decode about to read its first tag from the bytes given. -/
def atTag (bytes : List Byte) (limit : Nat) : State := decoding (Gpd.start (Image.ofBytes bytes) 0 limit)

theorem test_tag_fields :
    (tagOfBeat 0x2000000000008002 0x41).nloop = 2 ∧ (tagOfBeat 0x2000000000008002 0x41).eop = true
      ∧ (tagOfBeat 0x2000000000008002 0x41).mode = .packed ∧ (tagOfBeat 0x2000000000008002 0x41).regs = [1, 4]
      ∧ (tagOfBeat 0x0800000000000004 0).regs.length = 16 ∧ (tagOfBeat 0x0800000000000004 0).mode = .image
      ∧ (tagOfBeat 0x2003400000008002 0x41).pre = true ∧ (tagOfBeat 0x2003400000008002 0x41).prim = 6 := by decide
theorem test_tag_opens_items : after (atTag (beat 0x1000000000008001 0xE) 32) (fun t =>
    (t.gpd.cursor, t.gpd.phase, t.gpd.packet.length, t.active)) = some (16, .items 0 0, 1, .packet) := by decide +kernel
theorem test_tag_overrun : after (atTag (beat 0x1000000000008001 0xE) 8) (fun t => (t.gsResult, t.active))
    = some (some ([], some (.overrun .tagBeat 0)), .idle) := by decide
theorem test_tag_without_items_goes_on : after (atTag (beat 0x1000000000000000 0xE) 32) (fun t =>
    (t.gpd.cursor, t.gpd.phase, t.gpd.status)) = some (16, .tag, .running) := by decide +kernel
theorem test_tag_reglist_ends : after (atTag (beat 0x2400000000008005 0x21) 32) (fun t => (t.gpd.cursor, t.gpd.status))
    = some (16, .partialEnd (.unsupportedMode .regList)) := by decide +kernel
theorem test_items_read : interpret 4 0x000000100000FFF0 0x000087F001234560 = .xyzf2 (-16) 16 0x123456 0x7F true
    ∧ interpret 0xE 0x64 6 = .ad 6 0x64 ∧ interpret 1 5 5 = .raw := by decide

/-- G1 with its tag read: one AD item to come. -/
def atItem (limit : Nat) : State :=
  let start := Gpd.start (Image.ofBytes (beat 0x1000000000008001 0xE ++ beat 0x64 6)) 0 limit
  decoding { start with
    cursor := 16, phase := .items 0 0, packet := [{ tag := tagOfBeat 0x1000000000008001 0xE, items := [] }] }

theorem test_item_completes :
    after (atItem 32) (fun t => (t.gpd.cursor, t.gpd.status, t.active)) = some (32, .complete, .idle)
      ∧ after (atItem 32) (fun t => t.gpd.packet.map GsPrimitive.items)
        = some [[{ addr := 0x10, reg := 0xE, raw := [0x64, 0, 0, 0, 0, 0, 0, 0, 6, 0, 0, 0, 0, 0, 0, 0],
                   decoded := .ad 6 0x64 }]] := by decide +kernel
theorem test_item_overrun : after (atItem 31) (fun t => (t.gpd.cursor, t.gpd.status))
    = some (16, .partialEnd (.overrun (.itemBeat 0 0) 16)) := by decide
theorem test_window_past_the_image :
    refusal? (step (queued (.gsDecode (.supplied (withData 0 [])) 16376 16))) = some .badWindow
      ∧ refusal? (step (queued (.gsDecode (.supplied Snapshot.empty) 0 16))) = some .invalidComponent := by decide

/-! ### The first instruction after reset -/

theorem test_fetch_word_runs : (next? (step (State.reset.withFetchWord 32 0x01E208C0))).map (fun t =>
    t.idec.upperRes.map WordResult.text) = some (some "ADDx.xyzw vf3, vf1, vf2x") := by decide +kernel

end Sys2Proof.Tests
end

