-- ==== Sys2Proof/Tests/Texts.lean ====
section
/-! SUPPORT. The worked example of every VU rule of spec/ (42 to 45), and the IDEC vectors of 95_test_vectors section 3: the
words, addresses and texts are the spec's own. -/

namespace Sys2Proof.Tests

open Sys2Proof.Machine

-- the kernel evaluates these theorems one at a time: many at once would hold many threads
set_option Elab.async false

/-- The text `decodeUpper(w, a)` answers. -/
def upperText (w a : Word) : Option String :=
  match decodeUpperCall w a State.reset with
  | .next t => t.idec.upperRes.map WordResult.text
  | _ => none

/-- The text `decodeLower(w, a)` answers. -/
def lowerText (w a : Word) : Option String :=
  match decodeLowerCall w a State.reset with
  | .next t => t.idec.lowerRes.map PairLower.text
  | _ => none

/-- Every word of the list decodes as an upper word to the text beside it. -/
def upperTexts (l : List (Word × Word × String)) : Bool := l.all fun x => upperText x.1 x.2.1 == some x.2.2

/-- Every word of the list decodes as a lower word to the text beside it. -/
def lowerTexts (l : List (Word × Word × String)) : Bool := l.all fun x => lowerText x.1 x.2.1 == some x.2.2

/-- The examples of R200 to R215, class U_BC. -/
theorem test_u_bc_1 : upperTexts [
    (0x01E208C0, 0x100, "ADDx.xyzw vf3, vf1, vf2x"),
    (0x01E208C1, 0x100, "ADDy.xyzw vf3, vf1, vf2y"),
    (0x01E208C2, 0x100, "ADDz.xyzw vf3, vf1, vf2z"),
    (0x01E208C3, 0x100, "ADDw.xyzw vf3, vf1, vf2w"),
    (0x01E208C4, 0x100, "SUBx.xyzw vf3, vf1, vf2x"),
    (0x01E208C5, 0x100, "SUBy.xyzw vf3, vf1, vf2y"),
    (0x01E208C6, 0x100, "SUBz.xyzw vf3, vf1, vf2z"),
    (0x01E208C7, 0x100, "SUBw.xyzw vf3, vf1, vf2w"),
    (0x01E208C8, 0x100, "MADDx.xyzw vf3, vf1, vf2x"),
    (0x01E208C9, 0x100, "MADDy.xyzw vf3, vf1, vf2y"),
    (0x01E208CA, 0x100, "MADDz.xyzw vf3, vf1, vf2z"),
    (0x01E208CB, 0x100, "MADDw.xyzw vf3, vf1, vf2w"),
    (0x01E208CC, 0x100, "MSUBx.xyzw vf3, vf1, vf2x"),
    (0x01E208CD, 0x100, "MSUBy.xyzw vf3, vf1, vf2y"),
    (0x01E208CE, 0x100, "MSUBz.xyzw vf3, vf1, vf2z"),
    (0x01E208CF, 0x100, "MSUBw.xyzw vf3, vf1, vf2w")] = true := by decide +kernel

/-- The examples of R216 to R227, class U_BC. -/
theorem test_u_bc_2 : upperTexts [
    (0x01E208D0, 0x100, "MAXx.xyzw vf3, vf1, vf2x"),
    (0x01E208D1, 0x100, "MAXy.xyzw vf3, vf1, vf2y"),
    (0x01E208D2, 0x100, "MAXz.xyzw vf3, vf1, vf2z"),
    (0x01E208D3, 0x100, "MAXw.xyzw vf3, vf1, vf2w"),
    (0x01E208D4, 0x100, "MINIx.xyzw vf3, vf1, vf2x"),
    (0x01E208D5, 0x100, "MINIy.xyzw vf3, vf1, vf2y"),
    (0x01E208D6, 0x100, "MINIz.xyzw vf3, vf1, vf2z"),
    (0x01E208D7, 0x100, "MINIw.xyzw vf3, vf1, vf2w"),
    (0x01E208D8, 0x100, "MULx.xyzw vf3, vf1, vf2x"),
    (0x01E208D9, 0x100, "MULy.xyzw vf3, vf1, vf2y"),
    (0x01E208DA, 0x100, "MULz.xyzw vf3, vf1, vf2z"),
    (0x01E208DB, 0x100, "MULw.xyzw vf3, vf1, vf2w")] = true := by decide +kernel

/-- The examples of R228 to R237, class U_Q. -/
theorem test_u_q : upperTexts [
    (0x01E008DC, 0x100, "MULq.xyzw vf3, vf1, Q"),
    (0x01E008E0, 0x100, "ADDq.xyzw vf3, vf1, Q"),
    (0x01E008E1, 0x100, "MADDq.xyzw vf3, vf1, Q"),
    (0x01E008E4, 0x100, "SUBq.xyzw vf3, vf1, Q"),
    (0x01E008E5, 0x100, "MSUBq.xyzw vf3, vf1, Q")] = true := by decide +kernel

/-- The examples of R229 to R239, class U_I. -/
theorem test_u_i : upperTexts [
    (0x01E008DD, 0x100, "MAXi.xyzw vf3, vf1, I"),
    (0x01E008DE, 0x100, "MULi.xyzw vf3, vf1, I"),
    (0x01E008DF, 0x100, "MINIi.xyzw vf3, vf1, I"),
    (0x01E008E2, 0x100, "ADDi.xyzw vf3, vf1, I"),
    (0x01E008E3, 0x100, "MADDi.xyzw vf3, vf1, I"),
    (0x01E008E6, 0x100, "SUBi.xyzw vf3, vf1, I"),
    (0x01E008E7, 0x100, "MSUBi.xyzw vf3, vf1, I")] = true := by decide +kernel

/-- The examples of R240 to R247, class U_3. -/
theorem test_u_3 : upperTexts [
    (0x01E208E8, 0x100, "ADD.xyzw vf3, vf1, vf2"),
    (0x01E208E9, 0x100, "MADD.xyzw vf3, vf1, vf2"),
    (0x01E208EA, 0x100, "MUL.xyzw vf3, vf1, vf2"),
    (0x01E208EB, 0x100, "MAX.xyzw vf3, vf1, vf2"),
    (0x01E208EC, 0x100, "SUB.xyzw vf3, vf1, vf2"),
    (0x01E208ED, 0x100, "MSUB.xyzw vf3, vf1, vf2"),
    (0x01E208EE, 0x100, "OPMSUB.xyzw vf3, vf1, vf2"),
    (0x01E208EF, 0x100, "MINI.xyzw vf3, vf1, vf2")] = true := by decide +kernel

/-- The examples of R248 to R284, class U_ACC_BC. -/
theorem test_u_acc_bc_1 : upperTexts [
    (0x01E2083C, 0x100, "ADDAx.xyzw ACC, vf1, vf2x"),
    (0x01E2087C, 0x100, "SUBAx.xyzw ACC, vf1, vf2x"),
    (0x01E208BC, 0x100, "MADDAx.xyzw ACC, vf1, vf2x"),
    (0x01E208FC, 0x100, "MSUBAx.xyzw ACC, vf1, vf2x"),
    (0x01E209BC, 0x100, "MULAx.xyzw ACC, vf1, vf2x"),
    (0x01E2083D, 0x100, "ADDAy.xyzw ACC, vf1, vf2y"),
    (0x01E2087D, 0x100, "SUBAy.xyzw ACC, vf1, vf2y"),
    (0x01E208BD, 0x100, "MADDAy.xyzw ACC, vf1, vf2y"),
    (0x01E208FD, 0x100, "MSUBAy.xyzw ACC, vf1, vf2y"),
    (0x01E209BD, 0x100, "MULAy.xyzw ACC, vf1, vf2y"),
    (0x01E2083E, 0x100, "ADDAz.xyzw ACC, vf1, vf2z"),
    (0x01E2087E, 0x100, "SUBAz.xyzw ACC, vf1, vf2z"),
    (0x01E208BE, 0x100, "MADDAz.xyzw ACC, vf1, vf2z"),
    (0x01E208FE, 0x100, "MSUBAz.xyzw ACC, vf1, vf2z"),
    (0x01E209BE, 0x100, "MULAz.xyzw ACC, vf1, vf2z"),
    (0x01E2083F, 0x100, "ADDAw.xyzw ACC, vf1, vf2w")] = true := by decide +kernel

/-- The examples of R285 to R290, class U_ACC_BC. -/
theorem test_u_acc_bc_2 : upperTexts [
    (0x01E2087F, 0x100, "SUBAw.xyzw ACC, vf1, vf2w"),
    (0x01E208BF, 0x100, "MADDAw.xyzw ACC, vf1, vf2w"),
    (0x01E208FF, 0x100, "MSUBAw.xyzw ACC, vf1, vf2w"),
    (0x01E209BF, 0x100, "MULAw.xyzw ACC, vf1, vf2w")] = true := by decide +kernel

/-- The examples of R252 to R289, class U_CVT. -/
theorem test_u_cvt : upperTexts [
    (0x01E2093C, 0x100, "ITOF0.xyzw vf2, vf1"),
    (0x01E2097C, 0x100, "FTOI0.xyzw vf2, vf1"),
    (0x01E2093D, 0x100, "ITOF4.xyzw vf2, vf1"),
    (0x01E2097D, 0x100, "FTOI4.xyzw vf2, vf1"),
    (0x01E209FD, 0x100, "ABS.xyzw vf2, vf1"),
    (0x01E2093E, 0x100, "ITOF12.xyzw vf2, vf1"),
    (0x01E2097E, 0x100, "FTOI12.xyzw vf2, vf1"),
    (0x01E2093F, 0x100, "ITOF15.xyzw vf2, vf1"),
    (0x01E2097F, 0x100, "FTOI15.xyzw vf2, vf1")] = true := by decide +kernel

/-- The examples of R255 to R269, class U_ACC_Q. -/
theorem test_u_acc_q : upperTexts [
    (0x01E009FC, 0x100, "MULAq.xyzw ACC, vf1, Q"),
    (0x01E00A3C, 0x100, "ADDAq.xyzw ACC, vf1, Q"),
    (0x01E00A7C, 0x100, "SUBAq.xyzw ACC, vf1, Q"),
    (0x01E00A3D, 0x100, "MADDAq.xyzw ACC, vf1, Q"),
    (0x01E00A7D, 0x100, "MSUBAq.xyzw ACC, vf1, Q")] = true := by decide +kernel

/-- The examples of R258 to R283, class U_ACC_3. -/
theorem test_u_acc_3 : upperTexts [
    (0x01E20ABC, 0x100, "ADDA.xyzw ACC, vf1, vf2"),
    (0x01E20AFC, 0x100, "SUBA.xyzw ACC, vf1, vf2"),
    (0x01E20ABD, 0x100, "MADDA.xyzw ACC, vf1, vf2"),
    (0x01E20AFD, 0x100, "MSUBA.xyzw ACC, vf1, vf2"),
    (0x01E20ABE, 0x100, "MULA.xyzw ACC, vf1, vf2"),
    (0x01E20AFE, 0x100, "OPMULA.xyzw ACC, vf1, vf2")] = true := by decide +kernel

/-- The examples of R279 to R293, class U_ACC_I. -/
theorem test_u_acc_i : upperTexts [
    (0x01E009FE, 0x100, "MULAi.xyzw ACC, vf1, I"),
    (0x01E00A3E, 0x100, "ADDAi.xyzw ACC, vf1, I"),
    (0x01E00A7E, 0x100, "SUBAi.xyzw ACC, vf1, I"),
    (0x01E00A3F, 0x100, "MADDAi.xyzw ACC, vf1, I"),
    (0x01E00A7F, 0x100, "MSUBAi.xyzw ACC, vf1, I")] = true := by decide +kernel

/-- The examples of R291 to R291, class U_CLIP. -/
theorem test_u_clip : upperTexts [
    (0x01E209FF, 0x100, "CLIPw.xyzw vf1, vf2w")] = true := by decide +kernel

/-- The examples of R294 to R294, class U_NOP. -/
theorem test_u_nop : upperTexts [
    (0x000002FF, 0x100, "NOP")] = true := by decide +kernel

/-- The examples of R300 to R303, class L_MEM. -/
theorem test_l_mem : lowerTexts [
    (0x01C20805, 0x200, "LQ.xyz vf2, 5(vi1)"),
    (0x03C20FFB, 0x200, "SQ.xyz vf1, -5(vi2)"),
    (0x09C20805, 0x200, "ILW.xyz vi2, 5(vi1)"),
    (0x0BC20805, 0x200, "ISW.xyz vi2, 5(vi1)")] = true := by decide +kernel

/-- The examples of R304 to R305, class L_IMM15. -/
theorem test_l_imm15 : lowerTexts [
    (0x10420A34, 0x200, "IADDIU vi2, vi1, 4660"),
    (0x12420A34, 0x200, "ISUBIU vi2, vi1, 4660")] = true := by decide +kernel

/-- The examples of R306 to R309, class L_IMM24. -/
theorem test_l_imm24 : lowerTexts [
    (0x20123456, 0x200, "FCEQ vi1, 1193046"),
    (0x22123456, 0x200, "FCSET 1193046"),
    (0x24123456, 0x200, "FCAND vi1, 1193046"),
    (0x26123456, 0x200, "FCOR vi1, 1193046")] = true := by decide +kernel

/-- The examples of R310 to R313, class L_IMM12. -/
theorem test_l_imm12 : lowerTexts [
    (0x282207FD, 0x200, "FSEQ vi2, -3"),
    (0x2A2007FD, 0x200, "FSSET -3"),
    (0x2C2207FD, 0x200, "FSAND vi2, -3"),
    (0x2E2207FD, 0x200, "FSOR vi2, -3")] = true := by decide +kernel

/-- The examples of R314 to R321, class L_REG2. -/
theorem test_l_reg2 : lowerTexts [
    (0x30020800, 0x200, "FMEQ vi2, vi1"),
    (0x34020800, 0x200, "FMAND vi2, vi1"),
    (0x36020800, 0x200, "FMOR vi2, vi1"),
    (0x4A020800, 0x200, "JALR vi2, vi1")] = true := by decide +kernel

/-- The examples of R317 to R320, class L_REG1. -/
theorem test_l_reg1 : lowerTexts [
    (0x38020000, 0x200, "FCGET vi2"),
    (0x48000800, 0x200, "JR vi1")] = true := by decide +kernel

/-- The examples of R318 to R327, class L_BR. -/
theorem test_l_br : lowerTexts [
    (0x400007FF, 0x100, "B 0x100"),
    (0x42020003, 0x200, "BAL vi2, 0x220"),
    (0x50020803, 0x200, "IBEQ vi2, vi1, 0x220"),
    (0x52020803, 0x200, "IBNE vi2, vi1, 0x220"),
    (0x58000803, 0x200, "IBLTZ vi1, 0x220"),
    (0x5A000803, 0x200, "IBGTZ vi1, 0x220"),
    (0x5C000803, 0x200, "IBLEZ vi1, 0x220"),
    (0x5E000803, 0x200, "IBGEZ vi1, 0x220")] = true := by decide +kernel

/-- The examples of R328 to R332, class L_OP3. -/
theorem test_l_op3 : lowerTexts [
    (0x800208F0, 0x200, "IADD vi3, vi1, vi2"),
    (0x800208F1, 0x200, "ISUB vi3, vi1, vi2"),
    (0x800208F4, 0x200, "IAND vi3, vi1, vi2"),
    (0x800208F5, 0x200, "IOR vi3, vi1, vi2")] = true := by decide +kernel

/-- The examples of R330 to R330, class L_OPI5. -/
theorem test_l_opi5 : lowerTexts [
    (0x80020FB2, 0x200, "IADDI vi2, vi1, -2")] = true := by decide +kernel

/-- The examples of R333 to R365, class L_SP_MOVE. -/
theorem test_l_sp_move : lowerTexts [
    (0x81C20B3C, 0x200, "MOVE.xyz vf2, vf1"),
    (0x81C2043C, 0x200, "RNEXT.xyz vf2, R"),
    (0x81C2067C, 0x200, "MFP.xyz vf2, P"),
    (0x81C20B3D, 0x200, "MR32.xyz vf2, vf1"),
    (0x81C20BFD, 0x200, "MFIR.xyz vf2, vi1"),
    (0x81C2043D, 0x200, "RGET.xyz vf2, R"),
    (0x81C20BFE, 0x200, "ILWR.xyz vi2, (vi1)"),
    (0x81C20BFF, 0x200, "ISWR.xyz vi2, (vi1)")] = true := by decide +kernel

/-- The examples of R334 to R363, class L_SP_LSI. -/
theorem test_l_sp_lsi : lowerTexts [
    (0x81C20B7C, 0x200, "LQI.xyz vf2, (vi1++)"),
    (0x81C20B7D, 0x200, "SQI.xyz vf1, (vi2++)"),
    (0x81C20B7E, 0x200, "LQD.xyz vf2, (--vi1)"),
    (0x81C20B7F, 0x200, "SQD.xyz vf1, (--vi2)")] = true := by decide +kernel

/-- The examples of R335 to R366, class L_SP_FDIV. -/
theorem test_l_sp_fdiv : lowerTexts [
    (0x81A20BBC, 0x200, "DIV Q, vf1y, vf2w"),
    (0x80220BFC, 0x200, "MTIR vi2, vf1y"),
    (0x818203BD, 0x200, "SQRT Q, vf2w"),
    (0x81A20BBE, 0x200, "RSQRT Q, vf1y, vf2w"),
    (0x80200C3E, 0x200, "RINIT R, vf1y"),
    (0x80200C3F, 0x200, "RXOR R, vf1y")] = true := by decide +kernel

/-- The examples of R339 to R350, class L_SP_REG. -/
theorem test_l_sp_reg : lowerTexts [
    (0x800206BC, 0x200, "XTOP vi2"),
    (0x80000EFC, 0x200, "XGKICK vi1"),
    (0x800206BD, 0x200, "XITOP vi2")] = true := by decide +kernel

/-- The examples of R341 to R367, class L_SP_EFU. -/
theorem test_l_sp_efu : lowerTexts [
    (0x80000F3C, 0x200, "ESADD P, vf1"),
    (0x80000F7C, 0x200, "EATANxy P, vf1"),
    (0x80000F3D, 0x200, "ERSADD P, vf1"),
    (0x80000F7D, 0x200, "EATANxz P, vf1"),
    (0x80000F3E, 0x200, "ELENG P, vf1"),
    (0x80000F7E, 0x200, "ESUM P, vf1"),
    (0x80000F3F, 0x200, "ERLENG P, vf1")] = true := by decide +kernel

/-- The examples of R343 to R362, class L_SP_EFU1. -/
theorem test_l_sp_efu1 : lowerTexts [
    (0x80200FBC, 0x200, "ESQRT P, vf1y"),
    (0x80200FFC, 0x200, "ESIN P, vf1y"),
    (0x80200FBD, 0x200, "ERSQRT P, vf1y"),
    (0x80200FFD, 0x200, "EATAN P, vf1y"),
    (0x80200FBE, 0x200, "ERCPR P, vf1y"),
    (0x80200FFE, 0x200, "EEXP P, vf1y")] = true := by decide +kernel

/-- The examples of R364 to R368, class L_SP_NONE. -/
theorem test_l_sp_none : lowerTexts [
    (0x800003BF, 0x200, "WAITQ"),
    (0x800007BF, 0x200, "WAITP")] = true := by decide +kernel

/-- 95_test_vectors 3.1: one word a format class. -/
theorem test_vectors31_upper : upperTexts [
    (0x01E208C0, 0x100, "ADDx.xyzw vf3, vf1, vf2x"),
    (0x0100291C, 0x0, "MULq.x vf4, vf5, Q"),
    (0x0180F7DD, 0x0, "MAXi.xy vf31, vf30, I"),
    (0x01E31068, 0x0, "ADD.xyzw vf1, vf2, vf3"),
    (0x01E2083C, 0x0, "ADDAx.xyzw ACC, vf1, vf2x"),
    (0x01E4213C, 0x0, "ITOF0.xyzw vf4, vf4"),
    (0x002039FC, 0x0, "MULAq.w ACC, vf7, Q"),
    (0x01C20AFE, 0x0, "OPMULA.xyz ACC, vf1, vf2"),
    (0x004049FE, 0x0, "MULAi.z ACC, vf9, I"),
    (0x01C209FF, 0x0, "CLIPw.xyz vf1, vf2w"),
    (0x000002FF, 0x0, "NOP")] = true := by decide +kernel

/-- 95_test_vectors 3.1: one word a format class. -/
theorem test_vectors31_lower : lowerTexts [
    (0x01E117F0, 0x0, "LQ.xyzw vf1, -16(vi2)"),
    (0x032F43FF, 0x0, "SQ.xw vf8, 1023(vi15)"),
    (0x10420A34, 0x200, "IADDIU vi2, vi1, 4660"),
    (0x13031800, 0x0, "ISUBIU vi3, vi3, -16384"),
    (0x22FFFFFF, 0x0, "FCSET 16777215"),
    (0x2C2107FF, 0x0, "FSAND vi1, -1"),
    (0x34042800, 0x0, "FMAND vi4, vi5"),
    (0x48007800, 0x0, "JR vi15"),
    (0x38070000, 0x0, "FCGET vi7"),
    (0x400007FF, 0x100, "B 0x100"),
    (0x520117FD, 0x40, "IBNE vi1, vi2, 0x30"),
    (0x800208F0, 0x0, "IADD vi3, vi1, vi2"),
    (0x80010C32, 0x0, "IADDI vi1, vi1, -16"),
    (0x81E20B3C, 0x0, "MOVE.xyzw vf2, vf1"),
    (0x806533FD, 0x0, "MFIR.zw vf5, vi6"),
    (0x81E3237C, 0x0, "LQI.xyzw vf3, (vi4++)"),
    (0x81041B7F, 0x0, "SQD.x vf3, (--vi4)"),
    (0x81A20BBC, 0x0, "DIV Q, vf1y, vf2w"),
    (0x80002EFC, 0x0, "XGKICK vi5"),
    (0x8000377E, 0x0, "ESUM P, vf6"),
    (0x804037FE, 0x0, "EEXP P, vf6z"),
    (0x800007BF, 0x0, "WAITP")] = true := by decide +kernel

/-- 95_test_vectors 3.2 (R163). -/
theorem test_mask_suffixes : upperTexts [
    (0x00031068, 0, "ADD vf1, vf2, vf3"),
    (0x00231068, 0, "ADD.w vf1, vf2, vf3"),
    (0x00431068, 0, "ADD.z vf1, vf2, vf3"),
    (0x00631068, 0, "ADD.zw vf1, vf2, vf3"),
    (0x00831068, 0, "ADD.y vf1, vf2, vf3"),
    (0x00A31068, 0, "ADD.yw vf1, vf2, vf3"),
    (0x00C31068, 0, "ADD.yz vf1, vf2, vf3"),
    (0x00E31068, 0, "ADD.yzw vf1, vf2, vf3"),
    (0x01031068, 0, "ADD.x vf1, vf2, vf3"),
    (0x01231068, 0, "ADD.xw vf1, vf2, vf3"),
    (0x01431068, 0, "ADD.xz vf1, vf2, vf3"),
    (0x01631068, 0, "ADD.xzw vf1, vf2, vf3"),
    (0x01831068, 0, "ADD.xy vf1, vf2, vf3"),
    (0x01A31068, 0, "ADD.xyw vf1, vf2, vf3"),
    (0x01C31068, 0, "ADD.xyz vf1, vf2, vf3"),
    (0x01E31068, 0, "ADD.xyzw vf1, vf2, vf3")] = true := by decide +kernel

/-- 95_test_vectors 3.3: the first empty slot of each table (R159). -/
theorem test_sentinel_upper : upperTexts [
    (0x00000030, 0, "bad instruction"),
    (0x0000033C, 0, "bad instruction"),
    (0x0000033D, 0, "bad instruction"),
    (0x0000033E, 0, "bad instruction"),
    (0x000002BF, 0, "bad instruction"),
    (0xFFFFFFFF, 0, "bad instruction"),
    (0x00000000, 0, "ADDx vf0, vf0, vf0x")] = true := by decide +kernel

/-- 95_test_vectors 3.3: the first empty slot of each table (R159). -/
theorem test_sentinel_lower : lowerTexts [
    (0x04000000, 0, "bad instruction"),
    (0x80000000, 0, "bad instruction"),
    (0x8000003C, 0, "bad instruction"),
    (0x8000003D, 0, "bad instruction"),
    (0x8000003E, 0, "bad instruction"),
    (0x8000003F, 0, "bad instruction"),
    (0xFFFFFFFF, 0, "bad instruction"),
    (0x00000000, 0, "LQ vf0, 0(vi0)")] = true := by decide +kernel

/-- 95_test_vectors 3.4 (R162). -/
theorem test_branch_targets : lowerTexts [
    (0x400007FF, 0x100, "B 0x100"),
    (0x40000000, 0x0, "B 0x8"),
    (0x400007FF, 0x0, "B 0x0"),
    (0x400007FE, 0x0, "B 0x3ff8"),
    (0x40000000, 0x3FF8, "B 0x0"),
    (0x400007FF, 0x3FF8, "B 0x3ff8"),
    (0x40000001, 0x3FF0, "B 0x0"),
    (0x400003FF, 0x0, "B 0x2000"),
    (0x40000400, 0x0, "B 0x2008"),
    (0x40000400, 0x2000, "B 0x8"),
    (0x40000000, 0x102, "B 0x108"),
    (0x40000000, 0x107, "B 0x10c"),
    (0x40000000, 0xFFFFFFF8, "B 0x0"),
    (0x400007FF, 0x10, "B 0x10")] = true := by decide +kernel

/-- 95_test_vectors 3.5 (R96, R106). -/
theorem test_immediates_and_ignored_bits : lowerTexts [
    (0x10E107FF, 0, "IADDIU vi1, vi0, 16383"),
    (0x11E107FF, 0, "IADDIU vi1, vi0, -1"),
    (0x28210000, 0, "FSEQ vi1, -2048"),
    (0x280107FF, 0, "FSEQ vi1, 2047"),
    (0x80010BF2, 0, "IADDI vi1, vi1, 15"),
    (0x80010FF2, 0, "IADDI vi1, vi1, -1"),
    (0x01E10C00, 0, "LQ.xyzw vf1, -1024(vi1)"),
    (0x20000000, 0, "FCEQ vi1, 0"),
    (0x26800000, 0, "FCOR vi1, 8388608"),
    (0x800208F0, 0, "IADD vi3, vi1, vi2"),
    (0x81F28CF0, 0, "IADD vi3, vi1, vi2")] = true := by decide +kernel

/-- 95_test_vectors 3.5 (R106). -/
theorem test_ignored_bits_upper : upperTexts [
    (0x01E208C0, 0, "ADDx.xyzw vf3, vf1, vf2x"),
    (0x07E208C0, 0, "ADDx.xyzw vf3, vf1, vf2x")] = true := by decide +kernel

end Sys2Proof.Tests
end

