-- ==== Sys2Proof/Tests/Witnesses.lean ====
section
/-! SUPPORT. For every statement with hypotheses, a concrete state and operands that meet all of them together: one witness a
clause, at a boundary value where the clause has a range. witness_<Name> belongs to Obligations.<Name>. -/

namespace Sys2Proof.Tests

open Sys2Proof.Machine

-- the kernel evaluates these theorems one at a time: many at once would hold many threads
set_option Elab.async false

/-- A next state that evaluation finds. -/
theorem steps {s : State} (h : (next? (step s)).isSome = true) : ∃ t, step s = .next t := by
  cases hs : step s with
  | next t => exact ⟨t, rfl⟩
  | fault f => rw [hs] at h; cases h
  | refused r => rw [hs] at h; cases h

/-- A refusal that evaluation finds. -/
theorem refused {s : State} {r : Refusal} (h : refusal? (step s) = some r) : step s = .refused r := by
  cases hs : step s with
  | next t => rw [hs] at h; cases h
  | fault f => rw [hs] at h; cases h
  | refused r' => rw [hs] at h; cases h; rfl

/-! ### BFX and encodings -/

theorem witness_ExtractIsShiftAndMask : (0 ≤ 63 ∧ 63 ≤ 63) ∧ (63 ≤ 63 ∧ 63 ≤ 63) ∧ (0 ≤ 0 ∧ 0 ≤ 63) := by decide

theorem witness_ExtractPortRefusesBadBounds :
    ((queued (.extract 1 5 4)).active = .idle ∧ (queued (.extract 1 5 4)).requests = .extract 1 5 4 :: [] ∧ 4 < 5)
      ∧ ((queued (.extract 1 0 64)).active = .idle ∧ (queued (.extract 1 0 64)).requests = .extract 1 0 64 :: [] ∧ 63 < 64)
      ∧ ((queued (.extract 1 63 63)).active = .idle ∧ (queued (.extract 1 63 63)).requests = .extract 1 63 63 :: []
          ∧ 63 ≤ 63) := by decide

/-- The tag counts 1 and 16 of R408, each with its first and last slot. -/
theorem witness_GsTagFieldsAreExtracts :
    (tagOfBeat 0x1000000000008001 0xE).nreg = 1 ∧ (tagOfBeat 0x0800000000000004 0).nreg = 0 ∧ 15 < 16 := by decide

theorem witness_ItemReadingFollowsItsRegisterCode :
    ((0xE : BitVec 4) = 0xE) ∧ ((0x4 : BitVec 4) = 0x4) ∧ ((0xF : BitVec 4) ≠ 0xE ∧ (0xF : BitVec 4) ≠ 0x4) := by decide

/-- Rows of the table that select a word: the first and the last upper row, a branch, the last lower row. -/
def addxRow : OpcodeRow := (opcodeTable.find? fun r => r.mnemonic == "ADDx").get (by decide +kernel)

/-- The lower row of the unconditional branch. -/
def branchRow : OpcodeRow := (opcodeTable.find? fun r => r.mnemonic == "B").get (by decide +kernel)

theorem witness_DecodersFollowTheOpcodeTable :
    (addxRow ∈ opcodeTable ∧ addxRow.selects 0x01E208C0 = true ∧ addxRow.slot = .upper)
      ∧ (branchRow ∈ opcodeTable ∧ branchRow.selects 0x400007FF = true ∧ branchRow.slot = .lower)
      ∧ (∀ r ∈ opcodeTable, r.slot = .upper → r.selects 0x00000030 = false)
      ∧ (∀ r ∈ opcodeTable, r.slot = .lower → r.selects 0x04000000 = false) := by decide +kernel

theorem witness_IgnoredBitsChangeNothing :
    (addxRow ∈ opcodeTable ∧ addxRow.selects 0x01E208C0 = true ∧ addxRow.slot = .upper
        ∧ 0xFFE208C0 &&& addxRow.read = 0x01E208C0 &&& addxRow.read)
      ∧ (branchRow ∈ opcodeTable ∧ branchRow.selects 0x400007FF = true ∧ branchRow.slot = .lower
        ∧ 0x41FFFFFF &&& branchRow.read = 0x400007FF &&& branchRow.read) := by decide +kernel

theorem witness_UpperCallReturnsTheSelectedRow :
    (addxRow ∈ opcodeTable ∧ addxRow.slot = .upper ∧ addxRow.selects 0x01E208C0 = true)
      ∧ ∀ r ∈ opcodeTable, r.slot = .upper → r.selects 0xFFFFFFFF = false := by decide +kernel

theorem witness_LowerCallReturnsTheSelectedRow :
    (branchRow ∈ opcodeTable ∧ branchRow.slot = .lower ∧ branchRow.selects 0x400007FF = true)
      ∧ ∀ r ∈ opcodeTable, r.slot = .lower → r.selects 0xFFFFFFFF = false := by decide +kernel

/-- A word of each slot, and a packet of each payload shape at its exact length. -/
theorem witness_EncodedInstructionsDecodeBack :
    Params.suggested.ok ∧ (Instr.waitp).wf Params.suggested = true ∧ (Instr.clipw 0xF 31 31).wf Params.suggested = true
      ∧ (Instr.storeop 0xFFFFFFFF 0).wf Params.suggested = true
      ∧ (Instr.setregisters (List.replicate 1024 0)).wf Params.suggested = true := by decide +kernel

theorem witness_PacketsEncodeBack : Params.suggested.ok
    ∧ decodePacket Params.suggested [0x4C, 0xFF, 0, 0, 0, 1, 0, 0, 0, 0x50] = .ok (.loadop 0xFF 1, [0x50]) := by decide

theorem witness_BranchTargetWraps : (0x3FF8 : Word).toNat % 8 = 0 ∧ (0xFFFFFFF8 : Word).toNat % 8 = 0 := by decide

/-! ### IDEC's ports -/

theorem witness_StepRunsTheDecodedWord :
    ((queued (.decodeUpper 0x01E208C0 0)).active = .idle
        ∧ (queued (.decodeUpper 0x01E208C0 0)).requests = .decodeUpper 0x01E208C0 0 :: []
        ∧ decodeUpper 0x01E208C0 = .ok (.addx 0xF 3 1 2))
      ∧ ((queued (.decodeLower 0x400007FF 0x100)).active = .idle
        ∧ (queued (.decodeLower 0x400007FF 0x100)).requests = .decodeLower 0x400007FF 0x100 :: []
        ∧ decodeLower 0x400007FF = .ok (.b 0x7FF))
      ∧ ((queued (.decodePair 0x400007FF 0x000002FF 0)).active = .idle
        ∧ (queued (.decodePair 0x400007FF 0x000002FF 0)).requests = .decodePair 0x400007FF 0x000002FF 0 :: []
        ∧ decodeUpper 0x000002FF = .ok .nop ∧ decodeLower 0x400007FF = .ok (.b 0x7FF)
        ∧ (0x000002FF : Word).getLsbD 31 = false) := by decide

theorem witness_WordDecodesAreTotalAndPure :
    ((queued (.decodeUpper 0xFFFFFFFF 8)).active = .idle
        ∧ (queued (.decodeUpper 0xFFFFFFFF 8)).requests = .decodeUpper 0xFFFFFFFF 8 :: [])
      ∧ ((queued (.decodeLower 0 8)).active = .idle ∧ (queued (.decodeLower 0 8)).requests = .decodeLower 0 8 :: []) := by
  decide

theorem witness_PairDecodeHonoursTheImmediateBit :
    ((queued (.decodePair 0x400007FF 0x81E01062 0x100)).active = .idle
        ∧ (queued (.decodePair 0x400007FF 0x81E01062 0x100)).requests = .decodePair 0x400007FF 0x81E01062 0x100 :: [])
      ∧ (0x81E01062 : Word).getLsbD 31 = true ∧ (0x7FE01062 : Word).getLsbD 31 = false := by decide

/-- The last pair of an image; then an invalid image, a misaligned address, and the first address past the image. -/
theorem witness_PairAtReadsTheCommittedImage :
    ((queued (.decodePairAt (.supplied (withProgram 0x3FF8 [1])) 0x3FF8)).active = .idle
        ∧ (queued (.decodePairAt (.supplied (withProgram 0x3FF8 [1])) 0x3FF8)).requests
            = .decodePairAt (.supplied (withProgram 0x3FF8 [1])) 0x3FF8 :: []
        ∧ Image.wf progBytes (withProgram 0x3FF8 [1]).imem = true ∧ (withProgram 0x3FF8 [1]).imemValid = true
        ∧ (0x3FF8 : Word).toNat % 8 = 0 ∧ (0x3FF8 : Word).toNat + 8 ≤ 16384)
      ∧ (Image.wf progBytes Snapshot.empty.imem = true ∧ Snapshot.empty.imemValid = false)
      ∧ (0x3FF9 : Word).toNat % 8 ≠ 0 ∧ 16384 < (0x4000 : Word).toNat + 8 := by decide

theorem witness_PairAtReadsTheCommittedImage_resolves :
    (queued (.decodePairAt (.supplied (withProgram 0x3FF8 [1])) 0x3FF8)).resolve (.supplied (withProgram 0x3FF8 [1]))
      = .ok (withProgram 0x3FF8 [1]) := rfl

/-! ### Trace packets -/

theorem witness_TraceStepAppliesTheDecodedPacket :
    (tracing [0x50, 0x50] 1).active = .trace ∧ (tracing [0x50, 0x50] 1).tsr.status = .running
      ∧ decode (tracing [0x50, 0x50] 1).params .packet ((tracing [0x50, 0x50] 1).tsr.stream.drop
          (tracing [0x50, 0x50] 1).tsr.cursor) = .ok (.pushsnapshot, []) := by decide

theorem witness_SetPacketsReplaceOneComponent :
    (List.replicate 1024 (0 : Byte)).length = State.reset.params.regBlockBytes
      ∧ (List.replicate 16384 (0 : Byte)).length = 16384 := by decide +kernel

theorem witness_PushSnapshotCommitsTheAccumulator :
    (State.reset.params.ok ∧ State.reset.params.hasExh = true)
      ∧ ({ Params.suggested with hasExh := false }.ok ∧ { Params.suggested with hasExh := false }.hasExh = false) := by decide

/-- Lane w of VF[31], and VI[31]: the last ones; and an invalid block. -/
theorem witness_RegisterBlockLayout :
    State.reset.params.ok ∧ (List.replicate 1024 (1 : Byte)).length = State.reset.params.regBlockBytes
      ∧ (31 < 32 ∧ 3 < 4) ∧ Snapshot.empty.regsValid = false := by decide +kernel

theorem witness_AccumulatorIsSticky :
    (∃ t, exec .pushsnapshot (tracing [] 0) = .next t) ∧ (∃ t, exec (.setmemory [1]) (tracing [] 0) = .next t)
      ∧ (∃ t, exec (.setregisters [1]) (tracing [] 0) = .next t) ∧ (∃ t, exec .nop (tracing [] 0) = .next t) :=
  ⟨⟨_, rfl⟩, ⟨_, rfl⟩, ⟨_, rfl⟩, ⟨_, rfl⟩⟩

/-! ### Trace reading -/

theorem witness_TraceReadCallResetsTsrAndExh :
    (queued (.traceRead [0x50])).active = .idle ∧ (queued (.traceRead [0x50])).requests = .traceRead [0x50] :: [] := by decide

/-- The clean end, a byte that is no tag, and a payload one byte short. -/
theorem witness_TraceEndsInTheOrderOfItsChecks :
    ((tracing [0x50] 1).active = .trace ∧ (tracing [0x50] 1).tsr.status = .running
        ∧ (tracing [0x50] 1).tsr.cursor = (tracing [0x50] 1).tsr.stream.length)
      ∧ ((tracing [0x51] 0).active = .trace ∧ (tracing [0x51] 0).tsr.status = .running
        ∧ (tracing [0x51] 0).tsr.stream[(tracing [0x51] 0).tsr.cursor]? = some 0x51
        ∧ (0x51 : Byte) ∉ (tracing [0x51] 0).params.tags)
      ∧ ((tracing [0x4C, 1, 2, 3, 4, 5, 6, 7] 0).active = .trace ∧ (tracing [0x4C, 1, 2, 3, 4, 5, 6, 7] 0).tsr.status = .running
        ∧ (tracing [0x4C, 1, 2, 3, 4, 5, 6, 7] 0).tsr.stream[(tracing [0x4C, 1, 2, 3, 4, 5, 6, 7] 0).tsr.cursor]? = some 0x4C
        ∧ (tracing [0x4C, 1, 2, 3, 4, 5, 6, 7] 0).params.kindOf 0x4C = some .loadOp
        ∧ (tracing [0x4C, 1, 2, 3, 4, 5, 6, 7] 0).tsr.stream.length
            < (tracing [0x4C, 1, 2, 3, 4, 5, 6, 7] 0).tsr.cursor + 1
              + (tracing [0x4C, 1, 2, 3, 4, 5, 6, 7] 0).params.payloadLength .loadOp) := by decide

/-- A fatal whose call is still marked in progress, after a commit. -/
theorem witness_FatalReturnsOnlyItsDiagnostic :
    ({ tracing [0xFF] 0 with tsr := { Tsr.start [0xFF] with status := .fatal (.badTag 0xFF 0), snapshots := [atPc 0] } }
      ).tsr.status = .fatal (.badTag 0xFF 0) ∧ (tracing [0xFF] 0).active = .trace := by decide

theorem witness_SnapshotsAreOnlyAppended :
    (∃ t, step (tracing [0x50] 0) = .next t) ∧ (∃ t, step (queued (.traceRead [])) = .next t)
      ∧ ∃ t, step (queued (.decodeUpper 0 0)) = .next t :=
  ⟨steps (by decide +kernel), steps (by decide +kernel), steps (by decide +kernel)⟩

theorem witness_TraceReadTerminates :
    ((tracing [0x50, 0xFF] 0).params.ok ∧ (tracing [0x50, 0xFF] 0).active = .trace
        ∧ (tracing [0x50, 0xFF] 0).tsr.cursor ≤ (tracing [0x50, 0xFF] 0).tsr.stream.length)
      ∧ (tracing [0x50] 1).tsr.cursor ≤ (tracing [0x50] 1).tsr.stream.length := by decide

theorem witness_TraceReadTerminates_steps :
    (tracing [0x50] 0).active = .trace ∧ ∃ t, step (tracing [0x50] 0) = .next t :=
  ⟨rfl, steps (by decide +kernel)⟩

/-- T4: LOADOP(0x40, 16), STOREOP(0x80, 4), two commits. -/
def t4Packets : List Instr := [.loadop 0x40 16, .storeop 0x80 4, .pushsnapshot, .pushsnapshot]

theorem witness_TraceReadCommitsTheFreshSnapshots :
    (queued (.traceRead (t4Packets.flatMap (encode Params.suggested)))).params.ok
      ∧ (queued (.traceRead (t4Packets.flatMap (encode Params.suggested)))).active = .idle
      ∧ (queued (.traceRead (t4Packets.flatMap (encode Params.suggested)))).requests
          = .traceRead (t4Packets.flatMap (encode Params.suggested)) :: []
      ∧ ∀ i ∈ t4Packets, i.slot Params.suggested = .packet ∧ i.wf Params.suggested = true := by decide

/-- T7 with T4's packets before it, and a STOREOP with three payload bytes (P4). -/
theorem witness_MalformedTailIsFatal :
    ((queued (.traceRead (t4Packets.flatMap (encode Params.suggested) ++ 0xFF :: []))).requests
          = .traceRead (t4Packets.flatMap (encode Params.suggested) ++ 0xFF :: []) :: []
        ∧ Params.suggested.kindOf 0xFF = none)
      ∧ ((queued (.traceRead (t4Packets.flatMap (encode Params.suggested) ++ 0x53 :: [0, 2, 0]))).requests
          = .traceRead (t4Packets.flatMap (encode Params.suggested) ++ 0x53 :: [0, 2, 0]) :: []
        ∧ Params.suggested.kindOf 0x53 = some .storeOp ∧ [0, 2, 0].length < Params.suggested.payloadLength .storeOp)
      ∧ Params.suggested.ok ∧ ∀ i ∈ t4Packets, i.slot Params.suggested = .packet ∧ i.wf Params.suggested = true := by decide

/-! ### EXH -/

/-- A history that has counted one pc. -/
def oneCount : Exh := Exh.reset.countPc 0x10

theorem oneCount_wf : oneCount.Wf := Exh.countPc_wf Exh.reset_wf (by decide)

/-- A fault mark, a missing pc, the last accepted pc and the first refused one. -/
theorem witness_CommitUpdatesTheHistory :
    Params.suggested.ok ∧ oneCount.Wf ∧ (oneCount.raise (.pcUnavailable 0)).Wf
      ∧ (oneCount.raise (.pcUnavailable 0)).fault ≠ none
      ∧ (oneCount.fault = none ∧ Snapshot.empty.pc Params.suggested = none)
      ∧ (oneCount.fault = none ∧ (atPc 0x4000).pc Params.suggested = some 0x4000 ∧ 16384 ≤ (0x4000 : Word).toNat)
      ∧ (oneCount.fault = none ∧ (atPc 0x3FFF).pc Params.suggested = some 0x3FFF ∧ (0x3FFF : Word).toNat < 16384) :=
  ⟨by decide, oneCount_wf, Exh.raise_wf oneCount_wf _, by decide +kernel, by decide +kernel, by decide +kernel,
    by decide +kernel⟩

theorem witness_HistoryCountsEveryAcceptedCommit : Params.suggested.ok ∧ { Params.suggested with sregBytes := 4 }.ok := by
  decide

theorem witness_EdgeAccounting : Params.suggested.ok
    ∧ acceptedPcs Params.suggested [atPc 0x10, atPc 8, atPc 0x4000, atPc 0] = [0x10, 8] := by decide +kernel

theorem witness_HistoryIsThatOfTheSnapshots :
    ((tracing [0x50] 0).params.hasExh = true
        → (tracing [0x50] 0).exh = exhOf (tracing [0x50] 0).params (tracing [0x50] 0).tsr.snapshots)
      ∧ (∃ t, step (tracing [0x50] 0) = .next t)
      ∧ (next? (step (tracing [0x50] 0))).map (fun t => t.params.hasExh) = some true :=
  ⟨fun _ => rfl, steps (by decide +kernel), by decide +kernel⟩

/-- A block between two calls, with a history: every part of the invariant holds. -/
theorem counted_wf : { queued (.extract 1 0 0) with exh := oneCount }.Wf :=
  ⟨by decide, by decide, oneCount_wf, Gpd.start_wf rfl (by decide)⟩

/-- A history whose counts meet the bounds: record 1 is entered only by an edge, record 2 once by each way. -/
theorem witness_HistoryIsConsistent :
    let e := exhOf Params.suggested [atPc 0x10, atPc 8, atPc 0x10]
    (e.record 1).fallIn = 0 ∧ (e.record 1).fallOut = 1 ∧ (e.record 2).timesExecuted = 2 ∧ (e.record 2).executed = true
      ∧ (e.record 2).fallOut = 1 ∧ (e.record 0).executed = false ∧ (e.record 0).timesExecuted = 0 := by decide +kernel

/-! ### GPD -/

/-- A window that ends at the image's end, and one that ends a byte past it. -/
theorem witness_GsDecodeCallStartsAtTheWindow :
    ((queued (.gsDecode (.supplied (withData 0x3FF0 [1])) 0x3FF0 16)).active = .idle
        ∧ (queued (.gsDecode (.supplied (withData 0x3FF0 [1])) 0x3FF0 16)).requests
            = .gsDecode (.supplied (withData 0x3FF0 [1])) 0x3FF0 16 :: []
        ∧ (withData 0x3FF0 [1]).dmemValid = true ∧ Image.wf dataBytes (withData 0x3FF0 [1]).dmem = true
        ∧ 0x3FF0 + 16 ≤ 16384)
      ∧ ((queued (.gsDecode (.supplied (withData 0x3FF0 [1])) 0x3FF0 17)).requests
            = .gsDecode (.supplied (withData 0x3FF0 [1])) 0x3FF0 17 :: [] ∧ 16384 < 0x3FF0 + 17) := by decide

theorem witness_GsDecodeCallStartsAtTheWindow_resolves :
    (queued (.gsDecode (.supplied (withData 0x3FF0 [1])) 0x3FF0 16)).resolve (.supplied (withData 0x3FF0 [1]))
      = .ok (withData 0x3FF0 [1]) := rfl

theorem witness_TagBeatStep :
    (atTag (beat 0x1000000000008001 0xE) 16384).active = .packet
      ∧ (atTag (beat 0x1000000000008001 0xE) 16384).gpd.status = .running
      ∧ (atTag (beat 0x1000000000008001 0xE) 16384).gpd.phase = .tag
      ∧ (atTag (beat 0x1000000000008001 0xE) 16384).gpd.base + (atTag (beat 0x1000000000008001 0xE) 16384).gpd.limit
          ≤ 16384 := by decide +kernel

theorem witness_ItemBeatStep :
    (atItem 32).active = .packet ∧ (atItem 32).gpd.status = .running ∧ (atItem 32).gpd.phase = .items 0 0
      ∧ (atItem 32).gpd.packet.getLast? = some { tag := tagOfBeat 0x1000000000008001 0xE, items := [] }
      ∧ (tagOfBeat 0x1000000000008001 0xE).regs[0]? = some 0xE ∧ (atItem 32).gpd.base + (atItem 32).gpd.limit ≤ 16384 := by
  decide +kernel

theorem witness_GpdOnlyAppends :
    (atItem 32).active = .packet ∧ (∃ t, step (atItem 32) = .next t) ∧ (atItem 32).gpd.packet[0]?
      = some { tag := tagOfBeat 0x1000000000008001 0xE, items := [] } :=
  ⟨rfl, steps (by decide +kernel), rfl⟩

/-- The decode of G1 after its tag beat. -/
theorem atItem_gpd_wf : (atItem 32).gpd.Wf :=
  ⟨by decide +kernel, by decide, by decide, by decide, by decide, by decide,
    ⟨_, rfl, by decide, by decide, by decide, by decide⟩⟩

theorem witness_PacketIsWhatStandsInTheWindow :
    (atItem 32).gpd.Wf ∧ PacketRead (atItem 32).gpd.dmem (atItem 32).gpd.base (atItem 32).gpd.packet
      ∧ ∃ t, step (atItem 32) = .next t := 
  ⟨atItem_gpd_wf, ⟨by decide +kernel, trivial, trivial⟩, steps (by decide +kernel)⟩

/-- One returned packet for each form of R417: complete, overrun and an unsupported mode. -/
theorem witness_ReturnedPacketsHaveTheFormOfTheirDiagnostic :
    (∃ g : Gpd, g.Wf ∧ (decoding g).gsResult = some (g.packet, none))
      ∧ (∃ g : Gpd, g.Wf ∧ (decoding g).gsResult = some (g.packet, some (.overrun .tagBeat 0)))
      ∧ (∃ g : Gpd, g.Wf ∧ (decoding g).gsResult = some (g.packet, some (.unsupportedMode .disable))) :=
  ⟨⟨{ Gpd.start [] 0 16 with cursor := 16, status := .complete, packet := [{ tag := tagOfBeat 0x1000000000008000 0xE, items := [] }] },
      ⟨by decide, by decide, by decide, by decide, by decide, by decide, ⟨_, rfl, by decide, by decide⟩⟩, rfl⟩,
   ⟨{ Gpd.start [] 0 15 with status := .partialEnd (.overrun .tagBeat 0) },
      ⟨by decide, by decide, by decide, by decide, by decide, by decide, ⟨fun p hp => (by cases hp), rfl, rfl, by decide⟩⟩, rfl⟩,
   ⟨{ Gpd.start [] 0 16 with cursor := 16, status := .partialEnd (.unsupportedMode .disable),
                             packet := [{ tag := tagOfBeat 0x1C00000000000001 0, items := [] }] },
      ⟨by decide, by decide, by decide, by decide, by decide, by decide, ⟨by decide, _, rfl, by decide, rfl⟩⟩, rfl⟩⟩

theorem witness_GsDecodeTerminates : (atItem 32).gpd.Wf ∧ (atItem 32).active = .packet ∧ ∃ t, step (atItem 32) = .next t :=
  ⟨atItem_gpd_wf, rfl, steps (by decide +kernel)⟩

/-- Two images that agree inside the window and differ just past it. -/
theorem witness_GpdReadsOnlyItsWindow :
    (Gpd.start [] 0 16).base + (Gpd.start [] 0 16).limit ≤ 16384
      ∧ (∀ a, 0 ≤ a → a < 0 + 16 → Image.byte [] a = Image.byte [(16, 1)] a) ∧ ∃ g', (Gpd.start [] 0 16).step = .ok g' :=
  ⟨by decide, fun a _ h => by
    have : Image.byte [(16, 1)] a = 0 := by
      simp only [Image.byte, Sparse.get, if_neg (show ¬ a = 16 by omega)]
    rw [this]; rfl, _, rfl⟩

theorem witness_GpdReadsOnlyItsWindow_steps : (atItem 32).active = .packet ∧ ∃ t, step (atItem 32) = .next t :=
  ⟨rfl, steps (by decide +kernel)⟩

/-! ### The block -/

theorem witness_StepKeepsTheInvariant :
    { queued (.extract 1 0 0) with exh := oneCount }.Wf
      ∧ ∃ t, step { queued (.extract 1 0 0) with exh := oneCount } = .next t :=
  ⟨counted_wf, steps (by decide +kernel)⟩

theorem witness_ReachableStatesNeverFault : { queued (.extract 1 0 0) with exh := oneCount }.Wf := counted_wf

theorem witness_RefusalsAreOfTheNamedCalls :
    step (queued (.extract 1 5 4)) = .refused .badBounds
      ∧ step (queued (.decodePairAt (.supplied Snapshot.empty) 0)) = .refused .badFetch
      ∧ step (queued (.gsDecode (.supplied (withData 0 [])) 0x3FF0 17)) = .refused .badWindow
      ∧ step (queued (.gsDecode (.supplied Snapshot.empty) 0 0)) = .refused .invalidComponent
      ∧ step (queued (.gsDecode (.committed 0) 0 0)) = .refused .noSnapshot
      ∧ step (queued (.gsDecode (.supplied { Snapshot.empty with dmem := [(0, 0)], dmemValid := true }) 0 0))
          = .refused .badImage :=
  ⟨refused (by decide +kernel), refused (by decide +kernel), refused (by decide +kernel), refused (by decide +kernel),
    refused (by decide +kernel), refused (by decide +kernel)⟩

/-- A step of each kind: a trace packet, a beat, nothing queued, and one of each call. -/
theorem witness_OneUnitMovesInAStep :
    ((tracing [0x50] 0).active = .trace ∧ ∃ t, step (tracing [0x50] 0) = .next t)
      ∧ ((atItem 32).active = .packet ∧ ∃ t, step (atItem 32) = .next t)
      ∧ (State.reset.active = .idle ∧ State.reset.requests = [] ∧ ∃ t, step State.reset = .next t)
      ∧ (∃ t, step (queued (.extract 1 0 0)) = .next t) ∧ (∃ t, step (queued (.traceRead [])) = .next t)
      ∧ (∃ t, step (queued (.gsDecode (.supplied (withData 0 [])) 0 0)) = .next t)
      ∧ (∃ t, step (queued (.decodeLower 0 0)) = .next t) ∧ (∃ t, step (queued (.decodeUpper 0 0)) = .next t)
      ∧ (∃ t, step (queued (.decodePair 0 0 0)) = .next t)
      ∧ ∃ t, step (queued (.decodePairAt (.supplied (withProgram 0 [])) 0)) = .next t :=
  ⟨⟨rfl, steps (by decide +kernel)⟩, ⟨rfl, steps (by decide +kernel)⟩, ⟨rfl, rfl, steps (by decide +kernel)⟩,
    steps (by decide +kernel), steps (by decide +kernel), steps (by decide +kernel),
    steps (by decide +kernel), steps (by decide +kernel), steps (by decide +kernel),
    steps (by decide +kernel)⟩

end Sys2Proof.Tests
end

/-! O59 (R13, R143, R173, R401, R511): which calls are refused, and for which reason. A refusal is inverted once for each
port; the sequential units and the meanings of the instructions refuse nothing. -/

namespace Sys2Proof.Machine

/-! ### What refuses nothing -/

/-- No instruction is refused: a word's row writes its result wire, and a packet answers or ends in a fault (log 13). -/
theorem exec_ne_refused (i : Instr) (s : State) (r : Refusal) : exec i s ≠ .refused r := by
  intro h
  cases hslot : i.slot s.params with
  | upper =>
    obtain ⟨dest, ops, hnext⟩ := exec_upper hslot s
    simp [hnext] at h
  | lower =>
    obtain ⟨dest, ops, hnext⟩ := exec_lower hslot s
    simp [hnext] at h
  | packet =>
    cases i with
    | pushsnapshot =>
      simp only [exec, execPushsnapshot] at h
      split at h
      · split at h <;> cases h
      · cases h
    | setregisters | setmemory | setinstructions | loadop | storeop => cases h
    | _ => cases hslot

/-- A `traceRead` in progress is never refused: what is wrong in its stream is a diagnostic (R453, R454). -/
theorem tsrStep_ne_refused (s : State) (r : Refusal) : tsrStep s ≠ .refused r := by
  intro h
  unfold tsrStep at h
  split at h
  · split at h
    · next i rest _ =>
      split at h
      · cases h
      · cases h
      · next hexec => exact exec_ne_refused i s _ hexec
    all_goals cases h
  · cases h

/-- A `gsDecode` in progress is never refused: what is wrong in its packet is a diagnostic (R422, R423). -/
theorem gpdStep_ne_refused (s : State) (r : Refusal) : gpdStep s ≠ .refused r := by
  intro h
  unfold gpdStep at h
  split at h
  · split at h <;> cases h
  · cases h

/-! ### The refusals of each port -/

/-- A step is refused when the call at the head of the queue is, and no call is in progress. -/
theorem step_refused_iff {s : State} {r : Refusal} :
    step s = .refused r ↔
      s.active = .idle ∧ ∃ q calls, s.requests = q :: calls ∧ serve { s with requests := calls } q = .refused r := by
  unfold step
  split
  · next ha => simp [ha, tsrStep_ne_refused]
  · next ha => simp [ha, gpdStep_ne_refused]
  · next ha =>
    unfold serveNext
    split
    · next hq => simp [hq]
    · next q calls hq => simp [ha, hq]

/-- A snapshot reference fails in one way: it names a snapshot the host does not hold (log 12). -/
theorem resolve_eq_error_iff {s : State} {ref : SnapshotRef} {r : Refusal} :
    s.resolve ref = .error r ↔ r = .noSnapshot ∧ ∃ k, ref = .committed k ∧ s.hostSnapshots.length ≤ k := by
  cases ref with
  | supplied x => simp [State.resolve]
  | committed k =>
    simp only [State.resolve]
    split
    · next x hx =>
      have hk : k < s.hostSnapshots.length := (List.getElem?_eq_some_iff.mp hx).1
      simpa using fun _ => hk
    · next hx => simpa [eq_comm (a := r)] using fun _ => List.getElem?_eq_none_iff.mp hx

/-- BFX has no value exactly outside its precondition (R143). -/
theorem extract_eq_none_iff {v : DWord} {lo hi : Nat} : extract v lo hi = none ↔ hi < lo ∨ 63 < hi := by
  unfold extract
  split
  · next hbounds => simpa using hbounds
  · next hbounds =>
    simp only [true_iff]
    omega

theorem extractCall_refused_iff {v : DWord} {lo hi : Nat} {s : State} {r : Refusal} :
    extractCall v lo hi s = .refused r ↔ r = .badBounds ∧ (hi < lo ∨ 63 < hi) := by
  rw [← extract_eq_none_iff (v := v)]
  unfold extractCall
  split
  · next x hx => simp [hx]
  · next hx => simp [hx, eq_comm (a := r)]

/-- A pair call answers whatever its words are. -/
theorem decodePairCall_ne_refused (lower upper address : Word) (s : State) (r : Refusal) :
    decodePairCall lower upper address s ≠ .refused r := by
  obtain ⟨port, h⟩ := decodePairCall_eq lower upper address s
  simp [h]

/-- How `decodePairAt` is refused (R173), in the order of its tests (log 22). -/
theorem decodePairAtCall_refused_iff {ref : SnapshotRef} {a : Word} {s : State} {r : Refusal} :
    decodePairAtCall ref a s = .refused r ↔
      s.resolve ref = .error r ∨ ∃ x, s.resolve ref = .ok x
        ∧ ((r = .badFetch ∧ (x.imemValid = false ∨ a.toNat % 8 ≠ 0 ∨ progBytes < a.toNat + 8))
          ∨ (r = .badImage ∧ x.imemValid = true ∧ a.toNat % 8 = 0 ∧ a.toNat + 8 ≤ progBytes
              ∧ Image.wf progBytes x.imem = false)) := by
  unfold decodePairAtCall
  split
  · next e he => simp [he]
  · next x hx =>
    simp only [hx, reduceCtorEq, false_or, Except.ok.injEq, exists_eq_left']
    cases hvalid : x.imemValid with
    | false => simp [eq_comm (a := r)]
    | true =>
      by_cases haligned : a.toNat % 8 = 0
      · by_cases hend : a.toNat + 8 ≤ progBytes
        · cases hwf : Image.wf progBytes x.imem <;>
            simp [memRead, haligned, hend, not_lt.mpr hend, decodePairCall_ne_refused, eq_comm (a := r)]
        · simp [memRead, haligned, hend, not_le.mp hend, eq_comm (a := r)]
      · simp [haligned, eq_comm (a := r)]

/-- How `gsDecode` is refused (R401, R511), in the order of its tests (log 22). -/
theorem gsDecodeCall_refused_iff {ref : SnapshotRef} {off n : Nat} {s : State} {r : Refusal} :
    gsDecodeCall ref off n s = .refused r ↔
      s.resolve ref = .error r ∨ ∃ x, s.resolve ref = .ok x
        ∧ ((r = .invalidComponent ∧ x.dmemValid = false)
          ∨ (r = .badWindow ∧ x.dmemValid = true ∧ dataBytes < off + n)
          ∨ (r = .badImage ∧ x.dmemValid = true ∧ off + n ≤ dataBytes ∧ Image.wf dataBytes x.dmem = false)) := by
  unfold gsDecodeCall
  split
  · next e he => simp [he]
  · next x hx =>
    simp only [hx, reduceCtorEq, false_or, Except.ok.injEq, exists_eq_left']
    cases hvalid : x.dmemValid with
    | false => simp [eq_comm (a := r)]
    | true =>
      by_cases hend : dataBytes < off + n
      · simp [hend, not_le.mpr hend, eq_comm (a := r)]
      · cases hwf : Image.wf dataBytes x.dmem <;> simp [hend, not_lt.mp hend, eq_comm (a := r)]

/-- Serving a call is refused for the reason that names it; the order of the tests makes the reasons exclusive. -/
theorem serve_refused_iff {s : State} {q : Request} {r : Refusal} : serve s q = .refused r ↔ RefusedFor s q r := by
  cases q with
  | extract v lo hi =>
    rw [serve, extractCall_refused_iff]
    cases r <;> simp [RefusedFor]
  | decodeLower w a =>
    obtain ⟨res, hres⟩ := runLower_eq (s.setIdec (lowerInput w a))
    simp only [serve, decodeLowerCall, hres]
    cases r <;> simp [RefusedFor]
  | decodeUpper w a =>
    obtain ⟨res, hres⟩ := runUpper_eq (s.setIdec (upperInput w a))
    simp only [serve, decodeUpperCall, hres]
    cases r <;> simp [RefusedFor]
  | decodePair lower upper a =>
    simp only [serve, decodePairCall_ne_refused, false_iff]
    cases r <;> simp [RefusedFor]
  | decodePairAt ref a =>
    rw [serve, decodePairAtCall_refused_iff, resolve_eq_error_iff]
    cases r <;> simp [RefusedFor, and_comm]
  | gsDecode ref off n =>
    rw [serve, gsDecodeCall_refused_iff, resolve_eq_error_iff]
    cases r <;> simp [RefusedFor, and_comm]
  | traceRead stream =>
    simp only [serve, traceReadCall]
    cases r <;> simp [RefusedFor]

/-- Settles O59: it holds. Taking a call off the queue changes no snapshot, so the call is refused in the state the step
begins in exactly when serving it is. -/
theorem refusalsAreOfTheNamedCalls : Obligations.RefusalsAreOfTheNamedCalls := by
  refine ⟨fun s r => ?_, exec_ne_refused⟩
  have hdequeue : ∀ q calls, RefusedFor { s with requests := calls } q r ↔ RefusedFor s q r := by
    intro q calls
    cases r <;> rfl
  simp only [step_refused_iff, serve_refused_iff, hdequeue]

end Sys2Proof.Machine

/-! O56, O34, O51, O60, O26 (10_state R30 to R48, R547): what a step keeps, what it moves and what it runs. Each unit's
step is described once (what it leaves unchanged, what it appends); the statements are read off from that. -/

namespace Sys2Proof.Machine

/-! ### Which unit a step is of (R30, R48) -/

theorem step_trace {s : State} (hactive : s.active = .trace) : step s = tsrStep s := by
  simp only [step, hactive]

theorem step_packet {s : State} (hactive : s.active = .packet) : step s = gpdStep s := by
  simp only [step, hactive]

/-- With no call in progress and none queued a step changes nothing (log 4). -/
theorem step_idle_nil {s : State} (hactive : s.active = .idle) (hnone : s.requests = []) : step s = .next s := by
  simp only [step, hactive, serveNext, hnone]

/-- With no call in progress a step serves the call at the head of the queue. -/
theorem step_idle_cons {s : State} {q : Request} {calls : List Request} (hactive : s.active = .idle)
    (hcall : s.requests = q :: calls) : step s = serve { s with requests := calls } q := by
  simp only [step, hactive, serveNext, hcall]

/-! ### The register block (R31, R32, R35, R38) -/

/-- A range of a payload's image is read back as that range of the payload. -/
theorem memRead_ofBytes {payload : List Byte} {size a n : Nat} (hlen : payload.length = size) (hin : a + n ≤ size) :
    memRead (Image.ofBytes payload) size a n = some ((payload.drop a).take n) := by
  rw [memRead, if_pos hin, Image.bytesFrom_ofBytes (hlen ▸ hin)]

/-- The 32 vector registers come first, 16 bytes each (R31). -/
theorem vfLane_le_regBlockBytes (p : Params) {n k : Nat} (hn : n < 32) (hk : k < 4) :
    16 * n + 4 * k + 4 ≤ p.regBlockBytes := by
  unfold Params.regBlockBytes
  omega

/-- Every scalar register lies inside the register block (R32, R38). -/
theorem vi_le_regBlockBytes (p : Params) {n : Nat} (hn : n < 32) :
    512 + p.sregBytes * n + p.sregBytes ≤ p.regBlockBytes := by
  have hregs : p.sregBytes * (n + 1) ≤ p.sregBytes * 32 := Nat.mul_le_mul_left _ hn
  rw [Nat.mul_succ] at hregs
  unfold Params.regBlockBytes
  omega

/-- The program counter is the first word of its scalar register, so it lies inside the block (R35, log 13). -/
theorem pc_le_regBlockBytes {p : Params} (hp : p.ok) : 512 + p.sregBytes * p.pcIndex.val + 4 ≤ p.regBlockBytes := by
  have hword : 4 ≤ p.sregBytes := hp.2
  have hreg := vi_le_regBlockBytes p p.pcIndex.isLt
  omega

/-- Settles O34: it holds. The image SETREGISTERS leaves reads back its payload, and every register of the layout lies
inside the block. -/
theorem registerBlockLayout : Obligations.RegisterBlockLayout := by
  refine ⟨fun s payload hp hlen => ⟨_, rfl, fun n k hn hk => ?_, fun n hn => ?_, ?_⟩, fun p x n k hinvalid => ?_⟩
  · simp [Snapshot.vfLane, memRead_ofBytes hlen (vfLane_le_regBlockBytes s.params hn hk)]
  · simp [Snapshot.viBytes, memRead_ofBytes hlen (vi_le_regBlockBytes s.params hn)]
  · simp [Snapshot.pc, Snapshot.pcBytes, pcOffset, memRead_ofBytes hlen (pc_le_regBlockBytes hp)]
  · simp [Snapshot.vfLane, Snapshot.viBytes, Snapshot.pc, hinvalid]

/-! ### What a beat of GPD moves (R403, R410, R412) -/

/-- A tag beat opens a primitive; beyond that it settles the phase and the status alone. -/
theorem Gpd.tagStep_eq (g : Gpd) (tag : GsTag) :
    ∃ phase status, g.tagStep tag = { g.openPrimitive tag with phase := phase, status := status } := by
  unfold Gpd.tagStep
  dsimp only
  split
  · exact ⟨_, _, rfl⟩
  · split
    · split <;> exact ⟨_, _, rfl⟩
    · exact ⟨_, _, rfl⟩

/-- The advance after an item settles the phase and the status alone. -/
theorem Gpd.afterItem_eq (g : Gpd) (tag : GsTag) (l r : Nat) :
    ∃ phase status, g.afterItem tag l r = { g with phase := phase, status := status } := by
  unfold Gpd.afterItem
  split
  · exact ⟨_, _, rfl⟩
  · split
    · exact ⟨_, _, rfl⟩
    · split <;> exact ⟨_, _, rfl⟩

/-- Beyond the phase and the status, a step of GPD reads no beat, opens a primitive, or adds an item to the last one. -/
theorem Gpd.step_eq {g g' : Gpd} (h : g.step = .ok g') :
    ∃ phase status, g' = { g with phase := phase, status := status }
      ∨ (∃ tag, g' = { g.openPrimitive tag with phase := phase, status := status })
      ∨ ∃ last item, g.packet.getLast? = some last ∧ g' = { g.addItem item with phase := phase, status := status } := by
  rcases Gpd.step_cases h with ⟨-, rfl⟩ | ⟨-, -, rfl⟩ | ⟨-, l, r, last, reg, -, hlast, -, rfl⟩
  · exact ⟨_, _, .inl rfl⟩
  · obtain ⟨phase, status, heq⟩ := g.tagStep_eq (tagOfBeat _ _)
    exact ⟨phase, status, .inr (.inl ⟨_, heq⟩)⟩
  · obtain ⟨phase, status, heq⟩ := (g.addItem (g.itemAt reg _)).afterItem_eq last.tag l r
    exact ⟨phase, status, .inr (.inr ⟨last, _, hlast, heq⟩)⟩

/-- GPD never changes the image it reads nor its window (R400, R401). -/
theorem Gpd.step_window {g g' : Gpd} (h : g.step = .ok g') :
    g' = { g' with dmem := g.dmem, base := g.base, limit := g.limit } := by
  obtain ⟨phase, status, rfl | ⟨tag, rfl⟩ | ⟨last, item, -, rfl⟩⟩ := Gpd.step_eq h <;> rfl

/-- A step of GPD reads one beat or none (R403). -/
theorem Gpd.step_cursor {g g' : Gpd} (h : g.step = .ok g') : g'.cursor = g.cursor ∨ g'.cursor = g.cursor + 16 := by
  obtain ⟨phase, status, rfl | ⟨tag, rfl⟩ | ⟨last, item, -, rfl⟩⟩ := Gpd.step_eq h
  · exact .inl rfl
  · exact .inr rfl
  · exact .inr rfl

/-! ### GPD only appends (R410, R419) -/

/-- Every primitive of `old` stands at the same place in `new`, with its tag and its items, and perhaps further items. -/
def PacketExtends (old new : List GsPrimitive) : Prop :=
  ∀ (k : Nat) (p : GsPrimitive), old[k]? = some p →
    ∃ q : GsPrimitive, new[k]? = some q ∧ q.tag = p.tag ∧ p.items <+: q.items

theorem PacketExtends.refl (packet : List GsPrimitive) : PacketExtends packet packet :=
  fun _ p hp => ⟨p, hp, rfl, List.prefix_rfl⟩

/-- A primitive put at the end leaves those before it where they are. -/
theorem PacketExtends.concat (packet : List GsPrimitive) (p : GsPrimitive) : PacketExtends packet (packet ++ [p]) := by
  intro k q hq
  have hk : k < packet.length := (List.getElem?_eq_some_iff.mp hq).1
  exact ⟨q, by rwa [List.getElem?_append_left hk], rfl, List.prefix_rfl⟩

/-- An item goes to the end of the last primitive and leaves the others alone. -/
theorem PacketExtends.appendItem {packet : List GsPrimitive} {last : GsPrimitive} (hlast : packet.getLast? = some last)
    (item : GsItem) : PacketExtends packet (appendItem packet item) := by
  rw [eq_concat_of_getLast? hlast, appendItem_concat]
  intro k p hp
  rcases Nat.lt_trichotomy k packet.dropLast.length with hk | rfl | hk
  · rw [List.getElem?_append_left hk] at hp ⊢
    exact ⟨p, hp, rfl, List.prefix_rfl⟩
  · rw [List.getElem?_concat_length] at hp ⊢
    cases hp
    exact ⟨_, rfl, rfl, List.prefix_append _ _⟩
  · rw [List.getElem?_eq_none (by simpa using hk)] at hp
    cases hp

theorem Gpd.step_packetExtends {g g' : Gpd} (h : g.step = .ok g') : PacketExtends g.packet g'.packet := by
  obtain ⟨phase, status, rfl | ⟨tag, rfl⟩ | ⟨last, item, hlast, rfl⟩⟩ := Gpd.step_eq h
  · exact PacketExtends.refl _
  · exact PacketExtends.concat _ _
  · exact PacketExtends.appendItem hlast _

/-- Settles O51: it holds. A terminal status moves nothing, and a running decode moves by one step of GPD. -/
theorem gpdOnlyAppends : Obligations.GpdOnlyAppends := by
  intro s t hactive h
  rw [step_packet hactive] at h
  rcases gpdStep_cases h with ⟨-, g, hg, rfl⟩ | ⟨-, rfl⟩
  · exact ⟨Gpd.step_cursor hg, Gpd.step_packetExtends hg⟩
  · exact ⟨.inl rfl, PacketExtends.refl _⟩

/-! ### The frame of a sequential unit's step (R30) -/

/-- A packet changes the accumulator, the committed snapshots and EXH alone (R452, R455 to R460). -/
theorem exec_packet_frame {p : Params} {i : Instr} (hslot : i.slot p = .packet) {s t : State} (h : exec i s = .next t) :
    t = { s with tsr := { s.tsr with acc := t.tsr.acc, snapshots := t.tsr.snapshots }, exh := t.exh } := by
  rcases exec_packet hslot h with ⟨-, e, rfl, -⟩ | ⟨_, -, rfl⟩ | ⟨_, -, rfl⟩ | ⟨_, -, rfl⟩ | ⟨_, _, -, rfl⟩ |
    ⟨_, _, -, rfl⟩ <;>
    rfl

/-- A step of a `traceRead` changes TSR but not its stream, EXH and the end of the call alone. -/
theorem tsrStep_frame {s t : State} (h : tsrStep s = .next t) :
    t = { s with tsr := { t.tsr with stream := s.tsr.stream }, exh := t.exh, active := t.active } := by
  rcases tsrStep_cases h with ⟨-, i, rest, u, hdecode, hexec, rfl⟩ | ⟨-, -, rfl⟩ | ⟨-, d, rfl⟩ | ⟨-, rfl⟩
  · obtain ⟨-, hslot, -, -⟩ := decodePacket_wf hdecode
    rw [exec_packet_frame hslot hexec]
    rfl
  · rfl
  · rfl
  · rfl

/-- A step of a `gsDecode` changes GPD but not its image or window, and the end of the call alone. -/
theorem gpdStep_frame {s t : State} (h : gpdStep s = .next t) :
    t = { s with gpd := { t.gpd with dmem := s.gpd.dmem, base := s.gpd.base, limit := s.gpd.limit },
                 active := t.active } := by
  rcases gpdStep_cases h with ⟨-, g, hg, rfl⟩ | ⟨-, rfl⟩
  · dsimp only
    rw [← Gpd.step_window hg]
  · rfl

/-! ### The frame of a port call (R48, R171) -/

theorem extractCall_frame {v : DWord} {lo hi : Nat} {s t : State} (h : extractCall v lo hi s = .next t) :
    t = { s with bfxOut := t.bfxOut } := by
  unfold extractCall at h
  split at h
  · cases h
    rfl
  · cases h

/-- A `decodeLower` call always answers, and only writes the port. -/
theorem decodeLowerCall_eq (w a : Word) (s : State) : ∃ port, decodeLowerCall w a s = .next (s.setIdec port) := by
  obtain ⟨r, hr⟩ := runLower_eq (s.setIdec (lowerInput w a))
  exact ⟨_, hr⟩

/-- A `decodeUpper` call always answers, and only writes the port. -/
theorem decodeUpperCall_eq (w a : Word) (s : State) : ∃ port, decodeUpperCall w a s = .next (s.setIdec port) := by
  obtain ⟨r, hr⟩ := runUpper_eq (s.setIdec (upperInput w a))
  exact ⟨_, hr⟩

/-- What an outcome that only writes the port changes. -/
theorem idec_frame {o : Host.Outcome State Fault Refusal} {s t : State} (hport : ∃ port, o = .next (s.setIdec port))
    (h : o = .next t) : t = { s with idec := t.idec } := by
  obtain ⟨port, rfl⟩ := hport
  cases h
  rfl

/-- A `decodePairAt` call that answers is the pair call of the words it reads. -/
theorem decodePairAtCall_frame {ref : SnapshotRef} {a : Word} {s t : State} (h : decodePairAtCall ref a s = .next t) :
    t = { s with idec := t.idec } := by
  obtain ⟨x, -, -, -, -, -, hpair⟩ := decodePairAtCall_cases h
  exact idec_frame (decodePairCall_eq _ _ a s) hpair

/-- No call changes a parameter (R45, R547). -/
theorem serve_params {s t : State} {q : Request} (h : serve s q = .next t) : t.params = s.params := by
  rcases serve_cases h with ⟨_, rfl⟩ | ⟨_, rfl⟩ | ⟨_, _, _, -, -, rfl⟩ | ⟨_, rfl⟩ <;> rfl

/-- No step changes a parameter (R45, R547). -/
theorem step_params {s t : State} (h : step s = .next t) : t.params = s.params := by
  rcases step_cases h with ⟨-, h⟩ | ⟨-, h⟩ | ⟨-, -, rfl⟩ | ⟨-, q, calls, -, h⟩
  · rw [tsrStep_frame h]
  · rw [gpdStep_frame h]
  · rfl
  · rw [serve_params h]

/-- Settles O60: it holds, by the frame of the unit or of the port the step belongs to. -/
theorem oneUnitMovesInAStep : Obligations.OneUnitMovesInAStep := by
  intro s t h
  refine ⟨step_params h, fun hactive => ?_, fun hactive => ?_, fun hactive hnone => ?_, fun q calls hactive hcall => ?_⟩
  · exact tsrStep_frame (step_trace hactive ▸ h)
  · exact gpdStep_frame (step_packet hactive ▸ h)
  · rw [step_idle_nil hactive hnone] at h
    cases h
    rfl
  · rw [step_idle_cons hactive hcall] at h
    cases q with
    | extract v lo hi => exact extractCall_frame h
    | traceRead stream =>
      cases h
      rfl
    | gsDecode ref off n =>
      obtain ⟨x, -, -, -, -, rfl⟩ := gsDecodeCall_cases h
      rfl
    | decodeLower w a => exact idec_frame (decodeLowerCall_eq w a _) h
    | decodeUpper w a => exact idec_frame (decodeUpperCall_eq w a _) h
    | decodePair l u a => exact idec_frame (decodePairCall_eq l u a _) h
    | decodePairAt ref a => exact decodePairAtCall_frame h

/-! ### The invariant of the block (R36 to R43) -/

theorem Snapshot.empty_wf (p : Params) : Snapshot.empty.Wf p := ⟨rfl, rfl, rfl⟩

theorem Tsr.start_wf (p : Params) (stream : List Byte) : (Tsr.start stream).Wf p :=
  ⟨Snapshot.empty_wf p, by simp [Tsr.start], Nat.zero_le _⟩

theorem State.setAcc_wf {s : State} (hw : s.Wf) {acc : Snapshot} (hacc : acc.Wf s.params) : (s.setAcc acc).Wf := by
  obtain ⟨hparams, ⟨-, hsnapshots, hcursor⟩, hexh, hgpd⟩ := hw
  exact ⟨hparams, ⟨hacc, hsnapshots, hcursor⟩, hexh, hgpd⟩

theorem State.setCursor_wf {s : State} (hw : s.Wf) {c : Nat} (hc : c ≤ s.tsr.stream.length) : (s.setCursor c).Wf := by
  obtain ⟨hparams, ⟨hacc, hsnapshots, -⟩, hexh, hgpd⟩ := hw
  exact ⟨hparams, ⟨hacc, hsnapshots, hc⟩, hexh, hgpd⟩

/-- A commit keeps the invariant where EXH's new state has its own (R455): the accumulator joins the snapshots, and its
pending fields are in no image. -/
theorem State.commit_wf {s : State} (hw : s.Wf) {e : Exh} (he : e.Wf) : ((s.appendSnapshot.setExh e).clearPending).Wf := by
  obtain ⟨hparams, ⟨hacc, hsnapshots, hcursor⟩, -, hgpd⟩ := hw
  refine ⟨hparams, ⟨hacc, fun x hx => ?_, hcursor⟩, he, hgpd⟩
  rcases List.mem_append.mp hx with hold | hnew
  · exact hsnapshots x hold
  · rw [List.mem_singleton.mp hnew]
    exact hacc

/-- A well-formed packet keeps the invariant: its payload fills exactly the image it sets (R118), and a commit keeps
EXH's invariant. -/
theorem exec_packet_wf {s t : State} (hw : s.Wf) {i : Instr} (hslot : i.slot s.params = .packet)
    (hi : i.wf s.params = true) (h : exec i s = .next t) : t.Wf := by
  have hparts := hw
  obtain ⟨-, ⟨⟨hregs, hdmem, himem⟩, -, -⟩, hexh, -⟩ := hparts
  rcases exec_packet hslot h with ⟨-, e, rfl, he⟩ | ⟨bs, rfl, rfl⟩ | ⟨bs, rfl, rfl⟩ | ⟨bs, rfl, rfl⟩ | ⟨a, z, -, rfl⟩ |
    ⟨a, z, -, rfl⟩
  · refine State.commit_wf hw ?_
    split at he
    · exact Exh.onCommit_wf hexh he
    · exact he ▸ hexh
  · exact State.setAcc_wf hw ⟨Image.wf_ofBytes (beq_iff_eq.mp hi).le, hdmem, himem⟩
  · exact State.setAcc_wf hw ⟨hregs, Image.wf_ofBytes (beq_iff_eq.mp hi).le, himem⟩
  · exact State.setAcc_wf hw ⟨hregs, hdmem, Image.wf_ofBytes (beq_iff_eq.mp hi).le⟩
  · exact State.setAcc_wf hw ⟨hregs, hdmem, himem⟩
  · exact State.setAcc_wf hw ⟨hregs, hdmem, himem⟩

/-- A step of a `traceRead` keeps the invariant; the status and the end of the call are no part of it. -/
theorem tsrStep_wf {s t : State} (hw : s.Wf) (h : tsrStep s = .next t) : t.Wf := by
  rcases tsrStep_cases h with ⟨-, i, rest, u, hdecode, hexec, rfl⟩ | ⟨-, -, rfl⟩ | ⟨-, d, rfl⟩ | ⟨-, rfl⟩
  · obtain ⟨hi, hslot, -, -⟩ := decodePacket_wf hdecode
    have hstream : u.tsr.stream = s.tsr.stream := congrArg (·.tsr.stream) (exec_packet_frame hslot hexec)
    have hcursor := (Tsr.cursor_le hdecode).2
    exact State.setCursor_wf (exec_packet_wf hw hslot hi hexec) (hstream ▸ hcursor)
  · exact hw
  · exact hw
  · exact hw

/-- A step of a `gsDecode` keeps the invariant. -/
theorem gpdStep_wf {s t : State} (hw : s.Wf) (h : gpdStep s = .next t) : t.Wf := by
  rcases gpdStep_cases h with ⟨hrunning, g, hg, rfl⟩ | ⟨-, rfl⟩
  · obtain ⟨hparams, htsr, hexh, hgpd⟩ := hw
    exact ⟨hparams, htsr, hexh, Gpd.step_wf hgpd hrunning hg⟩
  · exact hw

/-- Serving a call keeps the invariant: a combinational port is no part of it, and a sequential unit begins in it. -/
theorem serve_wf {s t : State} (hw : s.Wf) {q : Request} (h : serve s q = .next t) : t.Wf := by
  obtain ⟨hparams, htsr, hexh, hgpd⟩ := hw
  rcases serve_cases h with ⟨_, rfl⟩ | ⟨_, rfl⟩ | ⟨img, off, avail, hwindow, himg, rfl⟩ | ⟨stream, rfl⟩
  · exact ⟨hparams, htsr, hexh, hgpd⟩
  · exact ⟨hparams, htsr, hexh, hgpd⟩
  · exact ⟨hparams, htsr, hexh, Gpd.start_wf himg hwindow⟩
  · exact ⟨hparams, Tsr.start_wf _ stream, Exh.reset_wf, hgpd⟩

/-- Settles O56: it holds, unit by unit. -/
theorem stepKeepsTheInvariant : Obligations.StepKeepsTheInvariant := by
  intro s t hw h
  rcases step_cases h with ⟨-, h⟩ | ⟨-, h⟩ | ⟨-, -, rfl⟩ | ⟨-, q, calls, -, h⟩
  · exact tsrStep_wf hw h
  · exact gpdStep_wf hw h
  · exact hw
  · have hdequeued : State.Wf { s with requests := calls } := hw
    exact serve_wf hdequeued h

/-! ### What a decode call runs (R48, R151, R152, R160, R168) -/

/-- The meaning of the row an upper word selects runs with the word on the wires. -/
theorem runUpper_ok {s : State} {i : Instr} (h : decodeUpper s.idec.upper = .ok i) : runUpper s = exec i s := by
  simp only [runUpper, h]

/-- The meaning of the row a lower word selects runs with the word on the wires. -/
theorem runLower_ok {s : State} {i : Instr} (h : decodeLower s.idec.lower = .ok i) : runLower s = exec i s := by
  simp only [runLower, h]

/-- With the I bit clear the lower half of a pair is a lower word (R99, R168). -/
theorem runPairLower_ok {s : State} {i : Instr} (hbit : s.idec.upper.getLsbD 31 = false)
    (h : decodeLower s.idec.lower = .ok i) : runPairLower s = exec i s := by
  rw [runPairLower, if_neg (by simp only [controlFlags, hbit, Bool.false_eq_true, not_false_eq_true]), runLower_ok h]

/-- A pair whose words decode, with the I bit clear, runs the upper row and then the lower row: the upper row leaves the
words on the wires as they are. -/
theorem decodePairCall_ok {s : State} {l w a : Word} {i j : Instr} (hupper : decodeUpper w = .ok i)
    (hlower : decodeLower l = .ok j) (hbit : w.getLsbD 31 = false) :
    ∃ t, exec i (s.setIdec (pairInput l w a)) = .next t ∧ decodePairCall l w a s = exec j t := by
  obtain ⟨res, hres⟩ := runUpper_eq (s.setIdec (pairInput l w a))
  refine ⟨(s.setIdec (pairInput l w a)).setUpperRes res, ?_, ?_⟩
  · rw [← hres]
    exact (runUpper_ok hupper).symm
  · simp only [decodePairCall, hres]
    exact runPairLower_ok hbit hlower

/-- Settles O26: it holds, by serving the call and running the row each word selects. -/
theorem stepRunsTheDecodedWord : Obligations.StepRunsTheDecodedWord := by
  intro s w l a calls i j hactive
  refine ⟨fun hcall hdecode => ?_, fun hcall hdecode => ?_, fun hcall hupper hlower hbit => ?_⟩
  · rw [step_idle_cons hactive hcall]
    exact runUpper_ok hdecode
  · rw [step_idle_cons hactive hcall]
    exact runLower_ok hdecode
  · rw [step_idle_cons hactive hcall]
    exact decodePairCall_ok (s := { s with requests := calls }) hupper hlower hbit

end Sys2Proof.Machine

/-! O8, O9 (30_encoding R91 to R96, R118): the two directions of the round trip. -/

namespace Sys2Proof

/-- Every instruction, constructor by constructor, is read back from its encoding. -/
theorem decode_encode (i : Instr) : Laws.RoundTrip.Statement i :=
  match i with
  | .addx _ _ _ _ => Laws.RoundTrip.addx _ _ _ _
  | .addy _ _ _ _ => Laws.RoundTrip.addy _ _ _ _
  | .addz _ _ _ _ => Laws.RoundTrip.addz _ _ _ _
  | .addw _ _ _ _ => Laws.RoundTrip.addw _ _ _ _
  | .subx _ _ _ _ => Laws.RoundTrip.subx _ _ _ _
  | .suby _ _ _ _ => Laws.RoundTrip.suby _ _ _ _
  | .subz _ _ _ _ => Laws.RoundTrip.subz _ _ _ _
  | .subw _ _ _ _ => Laws.RoundTrip.subw _ _ _ _
  | .maddx _ _ _ _ => Laws.RoundTrip.maddx _ _ _ _
  | .maddy _ _ _ _ => Laws.RoundTrip.maddy _ _ _ _
  | .maddz _ _ _ _ => Laws.RoundTrip.maddz _ _ _ _
  | .maddw _ _ _ _ => Laws.RoundTrip.maddw _ _ _ _
  | .msubx _ _ _ _ => Laws.RoundTrip.msubx _ _ _ _
  | .msuby _ _ _ _ => Laws.RoundTrip.msuby _ _ _ _
  | .msubz _ _ _ _ => Laws.RoundTrip.msubz _ _ _ _
  | .msubw _ _ _ _ => Laws.RoundTrip.msubw _ _ _ _
  | .maxx _ _ _ _ => Laws.RoundTrip.maxx _ _ _ _
  | .maxy _ _ _ _ => Laws.RoundTrip.maxy _ _ _ _
  | .maxz _ _ _ _ => Laws.RoundTrip.maxz _ _ _ _
  | .maxw _ _ _ _ => Laws.RoundTrip.maxw _ _ _ _
  | .minix _ _ _ _ => Laws.RoundTrip.minix _ _ _ _
  | .miniy _ _ _ _ => Laws.RoundTrip.miniy _ _ _ _
  | .miniz _ _ _ _ => Laws.RoundTrip.miniz _ _ _ _
  | .miniw _ _ _ _ => Laws.RoundTrip.miniw _ _ _ _
  | .mulx _ _ _ _ => Laws.RoundTrip.mulx _ _ _ _
  | .muly _ _ _ _ => Laws.RoundTrip.muly _ _ _ _
  | .mulz _ _ _ _ => Laws.RoundTrip.mulz _ _ _ _
  | .mulw _ _ _ _ => Laws.RoundTrip.mulw _ _ _ _
  | .mulq _ _ _ => Laws.RoundTrip.mulq _ _ _
  | .maxi _ _ _ => Laws.RoundTrip.maxi _ _ _
  | .muli _ _ _ => Laws.RoundTrip.muli _ _ _
  | .minii _ _ _ => Laws.RoundTrip.minii _ _ _
  | .addq _ _ _ => Laws.RoundTrip.addq _ _ _
  | .maddq _ _ _ => Laws.RoundTrip.maddq _ _ _
  | .addi _ _ _ => Laws.RoundTrip.addi _ _ _
  | .maddi _ _ _ => Laws.RoundTrip.maddi _ _ _
  | .subq _ _ _ => Laws.RoundTrip.subq _ _ _
  | .msubq _ _ _ => Laws.RoundTrip.msubq _ _ _
  | .subi _ _ _ => Laws.RoundTrip.subi _ _ _
  | .msubi _ _ _ => Laws.RoundTrip.msubi _ _ _
  | .add _ _ _ _ => Laws.RoundTrip.add _ _ _ _
  | .madd _ _ _ _ => Laws.RoundTrip.madd _ _ _ _
  | .mul _ _ _ _ => Laws.RoundTrip.mul _ _ _ _
  | .max _ _ _ _ => Laws.RoundTrip.max _ _ _ _
  | .sub _ _ _ _ => Laws.RoundTrip.sub _ _ _ _
  | .msub _ _ _ _ => Laws.RoundTrip.msub _ _ _ _
  | .opmsub _ _ _ _ => Laws.RoundTrip.opmsub _ _ _ _
  | .mini _ _ _ _ => Laws.RoundTrip.mini _ _ _ _
  | .addax _ _ _ => Laws.RoundTrip.addax _ _ _
  | .subax _ _ _ => Laws.RoundTrip.subax _ _ _
  | .maddax _ _ _ => Laws.RoundTrip.maddax _ _ _
  | .msubax _ _ _ => Laws.RoundTrip.msubax _ _ _
  | .itof0 _ _ _ => Laws.RoundTrip.itof0 _ _ _
  | .ftoi0 _ _ _ => Laws.RoundTrip.ftoi0 _ _ _
  | .mulax _ _ _ => Laws.RoundTrip.mulax _ _ _
  | .mulaq _ _ => Laws.RoundTrip.mulaq _ _
  | .addaq _ _ => Laws.RoundTrip.addaq _ _
  | .subaq _ _ => Laws.RoundTrip.subaq _ _
  | .adda _ _ _ => Laws.RoundTrip.adda _ _ _
  | .suba _ _ _ => Laws.RoundTrip.suba _ _ _
  | .adday _ _ _ => Laws.RoundTrip.adday _ _ _
  | .subay _ _ _ => Laws.RoundTrip.subay _ _ _
  | .madday _ _ _ => Laws.RoundTrip.madday _ _ _
  | .msubay _ _ _ => Laws.RoundTrip.msubay _ _ _
  | .itof4 _ _ _ => Laws.RoundTrip.itof4 _ _ _
  | .ftoi4 _ _ _ => Laws.RoundTrip.ftoi4 _ _ _
  | .mulay _ _ _ => Laws.RoundTrip.mulay _ _ _
  | .abs _ _ _ => Laws.RoundTrip.abs _ _ _
  | .maddaq _ _ => Laws.RoundTrip.maddaq _ _
  | .msubaq _ _ => Laws.RoundTrip.msubaq _ _
  | .madda _ _ _ => Laws.RoundTrip.madda _ _ _
  | .msuba _ _ _ => Laws.RoundTrip.msuba _ _ _
  | .addaz _ _ _ => Laws.RoundTrip.addaz _ _ _
  | .subaz _ _ _ => Laws.RoundTrip.subaz _ _ _
  | .maddaz _ _ _ => Laws.RoundTrip.maddaz _ _ _
  | .msubaz _ _ _ => Laws.RoundTrip.msubaz _ _ _
  | .itof12 _ _ _ => Laws.RoundTrip.itof12 _ _ _
  | .ftoi12 _ _ _ => Laws.RoundTrip.ftoi12 _ _ _
  | .mulaz _ _ _ => Laws.RoundTrip.mulaz _ _ _
  | .mulai _ _ => Laws.RoundTrip.mulai _ _
  | .addai _ _ => Laws.RoundTrip.addai _ _
  | .subai _ _ => Laws.RoundTrip.subai _ _
  | .mula _ _ _ => Laws.RoundTrip.mula _ _ _
  | .opmula _ _ _ => Laws.RoundTrip.opmula _ _ _
  | .addaw _ _ _ => Laws.RoundTrip.addaw _ _ _
  | .subaw _ _ _ => Laws.RoundTrip.subaw _ _ _
  | .maddaw _ _ _ => Laws.RoundTrip.maddaw _ _ _
  | .msubaw _ _ _ => Laws.RoundTrip.msubaw _ _ _
  | .itof15 _ _ _ => Laws.RoundTrip.itof15 _ _ _
  | .ftoi15 _ _ _ => Laws.RoundTrip.ftoi15 _ _ _
  | .mulaw _ _ _ => Laws.RoundTrip.mulaw _ _ _
  | .clipw _ _ _ => Laws.RoundTrip.clipw _ _ _
  | .maddai _ _ => Laws.RoundTrip.maddai _ _
  | .msubai _ _ => Laws.RoundTrip.msubai _ _
  | .nop => Laws.RoundTrip.nop
  | .lq _ _ _ _ => Laws.RoundTrip.lq _ _ _ _
  | .sq _ _ _ _ => Laws.RoundTrip.sq _ _ _ _
  | .ilw _ _ _ _ => Laws.RoundTrip.ilw _ _ _ _
  | .isw _ _ _ _ => Laws.RoundTrip.isw _ _ _ _
  | .iaddiu _ _ _ => Laws.RoundTrip.iaddiu _ _ _
  | .isubiu _ _ _ => Laws.RoundTrip.isubiu _ _ _
  | .fceq _ => Laws.RoundTrip.fceq _
  | .fcset _ => Laws.RoundTrip.fcset _
  | .fcand _ => Laws.RoundTrip.fcand _
  | .fcor _ => Laws.RoundTrip.fcor _
  | .fseq _ _ => Laws.RoundTrip.fseq _ _
  | .fsset _ => Laws.RoundTrip.fsset _
  | .fsand _ _ => Laws.RoundTrip.fsand _ _
  | .fsor _ _ => Laws.RoundTrip.fsor _ _
  | .fmeq _ _ => Laws.RoundTrip.fmeq _ _
  | .fmand _ _ => Laws.RoundTrip.fmand _ _
  | .fmor _ _ => Laws.RoundTrip.fmor _ _
  | .fcget _ => Laws.RoundTrip.fcget _
  | .b _ => Laws.RoundTrip.b _
  | .bal _ _ => Laws.RoundTrip.bal _ _
  | .jr _ => Laws.RoundTrip.jr _
  | .jalr _ _ => Laws.RoundTrip.jalr _ _
  | .ibeq _ _ _ => Laws.RoundTrip.ibeq _ _ _
  | .ibne _ _ _ => Laws.RoundTrip.ibne _ _ _
  | .ibltz _ _ => Laws.RoundTrip.ibltz _ _
  | .ibgtz _ _ => Laws.RoundTrip.ibgtz _ _
  | .iblez _ _ => Laws.RoundTrip.iblez _ _
  | .ibgez _ _ => Laws.RoundTrip.ibgez _ _
  | .iadd _ _ _ => Laws.RoundTrip.iadd _ _ _
  | .isub _ _ _ => Laws.RoundTrip.isub _ _ _
  | .iaddi _ _ _ => Laws.RoundTrip.iaddi _ _ _
  | .iand _ _ _ => Laws.RoundTrip.iand _ _ _
  | .ior _ _ _ => Laws.RoundTrip.ior _ _ _
  | .move _ _ _ => Laws.RoundTrip.move _ _ _
  | .lqi _ _ _ => Laws.RoundTrip.lqi _ _ _
  | .div _ _ _ _ => Laws.RoundTrip.div _ _ _ _
  | .mtir _ _ _ => Laws.RoundTrip.mtir _ _ _
  | .rnext _ _ => Laws.RoundTrip.rnext _ _
  | .mfp _ _ => Laws.RoundTrip.mfp _ _
  | .xtop _ => Laws.RoundTrip.xtop _
  | .xgkick _ => Laws.RoundTrip.xgkick _
  | .esadd _ => Laws.RoundTrip.esadd _
  | .eatanxy _ => Laws.RoundTrip.eatanxy _
  | .esqrt _ _ => Laws.RoundTrip.esqrt _ _
  | .esin _ _ => Laws.RoundTrip.esin _ _
  | .mr32 _ _ _ => Laws.RoundTrip.mr32 _ _ _
  | .sqi _ _ _ => Laws.RoundTrip.sqi _ _ _
  | .sqrt _ _ => Laws.RoundTrip.sqrt _ _
  | .mfir _ _ _ => Laws.RoundTrip.mfir _ _ _
  | .rget _ _ => Laws.RoundTrip.rget _ _
  | .xitop _ => Laws.RoundTrip.xitop _
  | .ersadd _ => Laws.RoundTrip.ersadd _
  | .eatanxz _ => Laws.RoundTrip.eatanxz _
  | .ersqrt _ _ => Laws.RoundTrip.ersqrt _ _
  | .eatan _ _ => Laws.RoundTrip.eatan _ _
  | .lqd _ _ _ => Laws.RoundTrip.lqd _ _ _
  | .rsqrt _ _ _ _ => Laws.RoundTrip.rsqrt _ _ _ _
  | .ilwr _ _ _ => Laws.RoundTrip.ilwr _ _ _
  | .rinit _ _ => Laws.RoundTrip.rinit _ _
  | .eleng _ => Laws.RoundTrip.eleng _
  | .esum _ => Laws.RoundTrip.esum _
  | .ercpr _ _ => Laws.RoundTrip.ercpr _ _
  | .eexp _ _ => Laws.RoundTrip.eexp _ _
  | .sqd _ _ _ => Laws.RoundTrip.sqd _ _ _
  | .waitq => Laws.RoundTrip.waitq
  | .iswr _ _ _ => Laws.RoundTrip.iswr _ _ _
  | .rxor _ _ => Laws.RoundTrip.rxor _ _
  | .erleng _ => Laws.RoundTrip.erleng _
  | .waitp => Laws.RoundTrip.waitp
  | .pushsnapshot => Laws.RoundTrip.pushsnapshot
  | .setregisters _ => Laws.RoundTrip.setregisters _
  | .setmemory _ => Laws.RoundTrip.setmemory _
  | .setinstructions _ => Laws.RoundTrip.setinstructions _
  | .loadop _ _ => Laws.RoundTrip.loadop _ _
  | .storeop _ _ => Laws.RoundTrip.storeop _ _

/-- Settles O8: it holds, by the round trip of each constructor. -/
theorem encodedInstructionsDecodeBack : Obligations.EncodedInstructionsDecodeBack :=
  fun p i rest hp hw => decode_encode i p hp hw rest

/-- The little-endian bytes of a byte string's value are the string. -/
theorem leBytes_leNat (bytes : List Byte) : leBytes bytes.length (leNat bytes) = bytes := by
  induction bytes with
  | nil => rfl
  | cons b rest ih =>
    have hb := b.isLt
    have hhead : BitVec.ofNat 8 (leNat (b :: rest)) = b := by
      apply BitVec.eq_of_toNat_eq
      simp only [leNat, BitVec.toNat_ofNat]
      omega
    have htail : leNat (b :: rest) / 256 = leNat rest := by
      simp only [leNat]
      omega
    rw [List.length_cons, leBytes, hhead, htail, ih]

/-- A word's four bytes are the first four of the bytes it was read from. -/
theorem leBytes_le32 {bytes : List Byte} (h : 4 ≤ bytes.length) : leBytes 4 (le32 bytes).toNat = bytes.take 4 := by
  have hlen : (bytes.take 4).length = 4 := by simp [h]
  have hlt : leNat (bytes.take 4) < 2 ^ 32 := by simpa [hlen] using leNat_lt (bytes.take 4)
  have hval : (le32 bytes).toNat = leNat (bytes.take 4) := by
    rw [le32, BitVec.toNat_ofNat, Nat.mod_eq_of_lt hlt]
  calc leBytes 4 (le32 bytes).toNat = leBytes (bytes.take 4).length (leNat (bytes.take 4)) := by rw [hval, hlen]
    _ = bytes.take 4 := leBytes_leNat _

/-- The payload of LOADOP and STOREOP is the bytes of its two words (R118, D25). -/
theorem leBytes_two_words {payload : List Byte} (h : payload.length = 8) :
    leBytes 4 (le32 payload).toNat ++ leBytes 4 (le32 (payload.drop 4)).toNat = payload := by
  rw [leBytes_le32 (by omega), leBytes_le32 (by rw [List.length_drop]; omega),
    List.take_of_length_le (l := payload.drop 4) (by rw [List.length_drop]; omega), List.take_append_drop]

/-- The tag byte of a kind of packet (R118). -/
def Params.tagOf (p : Params) : PacketKind → Byte
  | .pushSnapshot => p.tagPushSnapshot
  | .setRegisters => p.tagSetRegisters
  | .setMemory => p.tagSetMemory
  | .setInstructions => p.tagSetInstructions
  | .loadOp => p.tagLoadOp
  | .storeOp => p.tagStoreOp

/-- Only its tag byte names a kind (R453). -/
theorem tagOf_of_kindOf {p : Params} {b : Byte} {kind : PacketKind} (h : p.kindOf b = some kind) : p.tagOf kind = b := by
  unfold Params.kindOf at h
  split_ifs at h with hb hb hb hb hb hb <;> cases h <;> exact hb.symm

/-- A packet's encoding is its tag and its payload, verbatim (R118, R461). -/
theorem encode_packetOf (p : Params) (kind : PacketKind) {payload : List Byte}
    (h : payload.length = p.payloadLength kind) : encode p (packetOf kind payload) = p.tagOf kind :: payload := by
  cases kind with
  | pushSnapshot => rw [List.eq_nil_of_length_eq_zero h]; rfl
  | setRegisters | setMemory | setInstructions => rfl
  | loadOp | storeOp => exact congrArg (List.cons _) (leBytes_two_words h)

/-- Settles O9: it holds, by the inversion of the packet decoder and the encoding of each kind of packet. -/
theorem packetsEncodeBack : Obligations.PacketsEncodeBack := by
  intro p bytes rest i _ h
  obtain ⟨hwf, hslot, -, -⟩ := decodePacket_wf h
  obtain ⟨b, kind, tail, rfl, hkind, hlen, rfl, rfl⟩ := decodePacket_ok h
  refine ⟨hslot, hwf, ?_⟩
  rw [encode_packetOf p kind (List.length_take_of_le hlen), tagOf_of_kindOf hkind, List.cons_append, List.take_append_drop]

end Sys2Proof

/-! O3 (30_encoding R95, R96; 40_bitfield_extract R146, R148): the fields of a word are what BFX extracts. -/

namespace Sys2Proof

/-- BFX's answer on a word is the field of `len` bits from `low` up (R140, R146). -/
theorem extract_word (w : Word) (low len : Nat) (hlen : 0 < len) (h : low + len ≤ 32) :
    extract (w.setWidth 64) low (low + len - 1) = some ((bits low len w).setWidth 64) := by
  have hw := w.isLt
  have hfield : w.toNat / 2 ^ low % 2 ^ len < 2 ^ 64 :=
    (Nat.mod_le _ _).trans_lt ((Nat.div_le_self _ _).trans_lt (by omega))
  rw [extract, if_pos (by omega), show low + len - 1 - low + 1 = len by omega]
  congr 1
  apply BitVec.eq_of_toNat_eq
  simp only [bits, BitVec.toNat_ofNat, BitVec.toNat_setWidth, BitVec.extractLsb'_toNat, Nat.shiftRight_eq_div_pow]
  rw [Nat.mod_eq_of_lt (a := w.toNat) (by omega)]

/-- A field is its value in the 64 bits BFX answers with (R148). -/
theorem ofNat_setWidth_toNat {n : Nat} (a : BitVec n) (h : n ≤ 64) : BitVec.ofNat n (a.setWidth 64).toNat = a := by
  rw [BitVec.toNat_setWidth_of_le h, BitVec.ofNat_toNat, BitVec.setWidth_eq]

/-- An immediate in two parts is the upper part shifted above the lower part (R96). -/
theorem ofNat_parts {h l : Nat} (a : BitVec h) (b : BitVec l) (hh : h ≤ 64) (hl : l ≤ 64) :
    BitVec.ofNat (h + l) ((a.setWidth 64).toNat * 2 ^ l + (b.setWidth 64).toNat) = a ++ b := by
  have hval : (a ++ b).toNat = a.toNat * 2 ^ l + b.toNat := by
    rw [BitVec.toNat_append, ← Nat.shiftLeft_add_eq_or_of_lt b.isLt, Nat.shiftLeft_eq]
  rw [BitVec.toNat_setWidth_of_le hh, BitVec.toNat_setWidth_of_le hl, ← hval, BitVec.ofNat_toNat, BitVec.setWidth_eq]

/-- Settles O3: it holds, field by field. -/
theorem wordFieldsAreExtracts : Obligations.WordFieldsAreExtracts := by
  intro w target
  have field := extract_word w
  refine ⟨⟨field 21 4 ?_ ?_, field 16 5 ?_ ?_, field 11 5 ?_ ?_, field 6 5 ?_ ?_, field 16 4 ?_ ?_, field 11 4 ?_ ?_,
      field 6 4 ?_ ?_, field 0 2 ?_ ?_, field 21 2 ?_ ?_, field 23 2 ?_ ?_⟩,
    ⟨_, field 6 5 ?_ ?_, ?imm5⟩, ⟨_, field 0 11 ?_ ?_, ?imm11⟩, ⟨_, _, field 21 1 ?_ ?_, field 0 11 ?_ ?_, ?imm12⟩,
    ⟨_, _, field 21 4 ?_ ?_, field 0 11 ?_ ?_, ?imm15⟩, ⟨_, field 0 24 ?_ ?_, ?imm24⟩⟩
  case imm5 | imm11 => exact congrArg BitVec.toInt (ofNat_setWidth_toNat _ (by decide)).symm
  case imm12 | imm15 => exact congrArg BitVec.toInt (ofNat_parts _ _ (by decide) (by decide)).symm
  case imm24 => exact (BitVec.toNat_setWidth_of_le (by decide)).symm
  all_goals decide

end Sys2Proof

/-! O6, O7 (30_encoding R91 to R96, R105 to R108): the dispatch tables and the opcode table agree. A word is the layout of its
fields, so it is masked field by field; with that, each slot of each dispatch table is tied to its row. -/

namespace Sys2Proof

/-! ### A word and its fields (R91, R93) -/

/-- Adjacent fields put together are the field over both. -/
theorem bits_append_adjacent {n : Nat} (low l h : Nat) (v : BitVec n) :
    bits (low + l) h v ++ bits low l v = bits low (h + l) v :=
  BitVec.extractLsb'_append_extractLsb'_eq_extractLsb' rfl

/-- A field of a field. -/
theorem bits_bits {n low len at_ l : Nat} (v : BitVec n) (h : at_ + l ≤ len) :
    bits at_ l (bits low len v) = bits (low + at_) l v := by
  apply BitVec.eq_of_getLsbD_eq
  intro i hi
  simp only [bits, BitVec.getLsbD_extractLsb', Nat.add_assoc, show at_ + i < len by omega, decide_true, Bool.true_and]

/-- A field of a masked value. -/
theorem bits_and {n : Nat} (low len : Nat) (v m : BitVec n) :
    bits low len (v &&& m) = bits low len v &&& bits low len m := BitVec.extractLsb'_and

/-- The low 11 bits of a word, as the index above the 6-bit opcode. -/
theorem imm11_eq_append (w : Word) : Field.imm11 w = (bits 6 5 w ++ bits 0 6 w : BitVec 11) :=
  (bits_append_adjacent 0 6 5 w).symm

/-- A word put together from the fields of R93. -/
theorem lowerWord_fields (w : Word) :
    lowerWord (bits 25 7 w) (Field.dest w) (Field.ft w) (Field.fs w) (Field.imm11 w) = w :=
  calc bits 25 7 w ++ bits 21 4 w ++ bits 16 5 w ++ bits 11 5 w ++ bits 0 11 w
    _ = bits 21 11 w ++ bits 16 5 w ++ bits 11 5 w ++ bits 0 11 w := by rw [bits_append_adjacent 21 4 7]
    _ = bits 16 16 w ++ bits 11 5 w ++ bits 0 11 w := by rw [bits_append_adjacent 16 5 11]
    _ = bits 11 21 w ++ bits 0 11 w := by rw [bits_append_adjacent 11 5 16]
    _ = bits 0 32 w := bits_append_adjacent 0 11 21 w
    _ = w := bits_self w

/-- The layout of R91 is that of R93 with the control bits zero. -/
theorem upperWord_eq_lowerWord (dest : BitVec 4) (ft fs fd : BitVec 5) (op6 : BitVec 6) :
    upperWord dest ft fs fd op6 = lowerWord 0#7 dest ft fs (fd ++ op6) :=
  (BitVec.append_assoc' (x₁ := 0#7 ++ dest ++ ft ++ fs) (x₂ := fd) (x₃ := op6)).symm

/-! ### Masked words -/

/-- A word of R93 is a masked word exactly when each of its fields is the masked field. -/
theorem lowerWord_eq_and (w m : Word) (op7 : BitVec 7) (dest : BitVec 4) (ft fs : BitVec 5) (low : BitVec 11) :
    lowerWord op7 dest ft fs low = w &&& m ↔
      op7 = bits 25 7 w &&& m.extractLsb' 25 7 ∧ dest = Field.dest w &&& m.extractLsb' 21 4
        ∧ ft = Field.ft w &&& m.extractLsb' 16 5 ∧ fs = Field.fs w &&& m.extractLsb' 11 5
        ∧ low = Field.imm11 w &&& m.extractLsb' 0 11 := by
  constructor
  · intro h
    have field (at_ len : Nat) :
        bits at_ len (lowerWord op7 dest ft fs low) = bits at_ len w &&& bits at_ len m := by rw [h, bits_and]
    exact ⟨(lowerWord_op7 ..).symm.trans (field 25 7), (lowerWord_dest ..).symm.trans (field 21 4),
      (lowerWord_ft ..).symm.trans (field 16 5), (lowerWord_fs ..).symm.trans (field 11 5),
      (lowerWord_imm11 ..).symm.trans (field 0 11)⟩
  · rintro ⟨rfl, rfl, rfl, rfl, rfl⟩
    simp only [Field.dest, Field.ft, Field.fs, Field.imm11, bits, ← BitVec.extractLsb'_and]
    exact lowerWord_fields (w &&& m)

/-- The low 11 bits, as an index above a 6-bit opcode, are masked part by part. -/
theorem low_eq_and (w : Word) (m : BitVec 11) (index : BitVec 5) (op6 : BitVec 6) :
    (index ++ op6 : BitVec 11) = Field.imm11 w &&& m ↔
      index = bits 6 5 w &&& m.extractLsb' 6 5 ∧ op6 = bits 0 6 w &&& m.extractLsb' 0 6 := by
  constructor
  · intro h
    have field (at_ len : Nat) (hle : at_ + len ≤ 11) :
        bits at_ len (index ++ op6 : BitVec 11) = bits at_ len w &&& bits at_ len m := by
      rw [h, bits_and, Field.imm11, bits_bits w hle, Nat.zero_add]
    exact ⟨(bits_opcode_high ..).symm.trans (field 6 5 (by decide)), (bits_opcode_low ..).symm.trans (field 0 6 (by decide))⟩
  · rintro ⟨rfl, rfl⟩
    have hm : (bits 6 5 m ++ bits 0 6 m : BitVec 11) = m := (bits_append_adjacent 0 6 5 m).trans (bits_self m)
    calc ((bits 6 5 w &&& bits 6 5 m) ++ (bits 0 6 w &&& bits 0 6 m) : BitVec 11)
      _ = (bits 6 5 w ++ bits 0 6 w) &&& (bits 6 5 m ++ bits 0 6 m) := BitVec.and_append.symm
      _ = Field.imm11 w &&& m := by rw [hm, imm11_eq_append]

/-! ### The parts of a word as masked slots (R95, R96) -/

@[simp] theorem and_ones_4 (v : BitVec 4) : v &&& 0xF#4 = v := BitVec.and_allOnes
@[simp] theorem and_ones_5 (v : BitVec 5) : v &&& 0x1F#5 = v := BitVec.and_allOnes
@[simp] theorem and_ones_6 (v : BitVec 6) : v &&& 0x3F#6 = v := BitVec.and_allOnes
@[simp] theorem and_ones_7 (v : BitVec 7) : v &&& 0x7F#7 = v := BitVec.and_allOnes
@[simp] theorem and_ones_11 (v : BitVec 11) : v &&& 0x7FF#11 = v := BitVec.and_allOnes

/-- An integer register's slot is read without its high bit (R95). -/
theorem mini_bits (slot : BitVec 5) : mini (bits 0 4 slot) = slot &&& 0xF#5 := by decide +revert

@[simp] theorem mini_it (w : Word) : mini (Field.it w) = Field.ft w &&& 0xF#5 := by
  rw [← mini_bits, Field.ft, bits_bits w (by decide), Field.it]

@[simp] theorem mini_is (w : Word) : mini (Field.is w) = Field.fs w &&& 0xF#5 := by
  rw [← mini_bits, Field.fs, bits_bits w (by decide), Field.is]

@[simp] theorem mini_id (w : Word) : mini (Field.id w) = bits 6 5 w &&& 0xF#5 := by
  rw [← mini_bits, bits_bits w (by decide), Field.id]

@[simp] theorem selectors_eq_dest (w : Word) : (Field.ftf w ++ Field.fsf w : BitVec 4) = Field.dest w :=
  bits_append_adjacent 21 2 2 w

@[simp] theorem fsf_eq_and (w : Word) : (0#2 ++ Field.fsf w : BitVec 4) = Field.dest w &&& 3#4 := by
  rw [← selectors_eq_dest, show 3#4 = 0#2 ++ 3#2 from rfl, BitVec.and_append, BitVec.and_zero]
  rw [show 3#2 = BitVec.allOnes 2 from rfl, BitVec.and_allOnes]

@[simp] theorem ftf_eq_and (w : Word) : (Field.ftf w ++ 0#2 : BitVec 4) = Field.dest w &&& 0xC#4 := by
  rw [← selectors_eq_dest, show 0xC#4 = 3#2 ++ 0#2 from rfl, BitVec.and_append, BitVec.and_zero]
  rw [show 3#2 = BitVec.allOnes 2 from rfl, BitVec.and_allOnes]

/-- The mask of imm12 keeps one bit of its slot (R96). -/
@[simp] theorem imm12_high_eq_and (w : Word) : (0#3 ++ bits 11 1 (Field.imm12 w) : BitVec 4) = Field.dest w &&& 1#4 := by
  have hslot : ∀ slot : BitVec 4, (0#3 ++ bits 0 1 slot : BitVec 4) = slot &&& 1#4 := by decide
  rw [← hslot, Field.dest, bits_bits w (by decide), Field.imm12, bits_append_high _ _ (by decide), bits_self]

@[simp] theorem imm12_low (w : Word) : bits 0 11 (Field.imm12 w) = Field.imm11 w :=
  (bits_append_low _ _ (by decide)).trans (bits_self _)

@[simp] theorem imm15_high (w : Word) : bits 11 4 (Field.imm15 w) = Field.dest w :=
  (bits_append_high _ _ (by decide)).trans (bits_self _)

@[simp] theorem imm15_low (w : Word) : bits 0 11 (Field.imm15 w) = Field.imm11 w :=
  (bits_append_low _ _ (by decide)).trans (bits_self _)

/-- The word of class L_IMM24 drops bit 24 alone (R94, R96). -/
theorem lowerImm24_eq_and {w : Word} {op7 : BitVec 7} (h : bits 25 7 w = op7) :
    lowerImm24 op7 (Field.imm24 w) = w &&& 0xFEFFFFFF :=
  calc op7 ++ 0#1 ++ bits 0 24 w
    _ = (bits 25 7 w ++ bits 24 1 w ++ bits 0 24 w) &&& (BitVec.allOnes 7 ++ 0#1 ++ BitVec.allOnes 24) := by
      rw [BitVec.and_append, BitVec.and_append, BitVec.and_allOnes, BitVec.and_allOnes, BitVec.and_zero, h]
    _ = (bits 24 8 w ++ bits 0 24 w) &&& 0xFEFFFFFF := by rw [bits_append_adjacent 24 1 7]; rfl
    _ = bits 0 32 w &&& 0xFEFFFFFF := by rw [bits_append_adjacent 0 24 8]
    _ = w &&& 0xFEFFFFFF := by rw [bits_self w]

end Sys2Proof

namespace Sys2Proof.Machine

/-! ### The slots of the dispatch tables and the rows of the opcode table (R100 to R108) -/

/-- Slot `e` of a dispatch table holds the row `r` of the opcode table; `sel w k` says that the word `w` reaches slot `k`. -/
structure RowOf (slot : Slot) (decoder : Word → Except DecodeError Instr) (sel : Word → Nat → Prop) (r : OpcodeRow)
    (e : Nat × (Word → Instr)) : Prop where
  slot_eq : r.slot = slot
  selects : ∀ w, r.selects w = true ↔ sel w e.1
  decodes : ∀ w, sel w e.1 → decoder w = .ok (e.2 w)
  mnemonic : ∀ w, (e.2 w).mnemonic = r.mnemonic
  encodes : ∀ p w, sel w e.1 → encoding p (e.2 w) = .word slot (w &&& r.read)

/-- The word reaches slot `k` of UPPER (R157). -/
abbrev AtUpper (w : Word) (k : Nat) : Prop := bits 0 6 w = BitVec.ofNat 6 k

/-- The word reaches slot `k` of the second-level upper table under `op6` (R158). -/
abbrev UnderUpper (op6 : BitVec 6) (w : Word) (k : Nat) : Prop := bits 6 5 w = BitVec.ofNat 5 k ∧ bits 0 6 w = op6

/-- The word reaches slot `k` of LOWER (R154). -/
abbrev AtLower (w : Word) (k : Nat) : Prop := bits 25 7 w = BitVec.ofNat 7 k

/-- The word reaches slot `k` of LOWEROP (R155). -/
abbrev AtLowerOp (w : Word) (k : Nat) : Prop := bits 25 7 w = 0x40#7 ∧ bits 0 6 w = BitVec.ofNat 6 k

/-- The word reaches slot `k` of the third-level lower table under `sub6` (R156). -/
abbrev UnderLowerOp (sub6 : BitVec 6) (w : Word) (k : Nat) : Prop :=
  bits 25 7 w = 0x40#7 ∧ bits 6 5 w = BitVec.ofNat 5 k ∧ bits 0 6 w = sub6

section Levels

variable {r : OpcodeRow} {k : Nat} {mk : Word → Instr} {table : List (Nat × (Word → Instr))}

/-- A slot of UPPER: the row's mask is op6 and its value is the slot's number. -/
theorem RowOf.upper (hslot : r.slot = .upper) (hmask : r.mask = 0x3F)
    (hvalue : r.value = upperWord 0#4 0#5 0#5 0#5 (BitVec.ofNat 6 k)) (hlink : upperLink (BitVec.ofNat 6 k).toNat = none)
    (hlookup : upperTable.lookup (BitVec.ofNat 6 k).toNat = some mk) (hmn : ∀ w, (mk w).mnemonic = r.mnemonic)
    (henc : ∀ p w, AtUpper w k → encoding p (mk w) = .word .upper (w &&& r.read)) :
    RowOf .upper decodeUpper AtUpper r (k, mk) where
  slot_eq := hslot
  selects w := by
    rw [OpcodeRow.selects, beq_iff_eq, hmask, hvalue, eq_comm, upperWord_eq_lowerWord, lowerWord_eq_and, low_eq_and]
    simp [eq_comm]
  decodes _ h := decodeUpper_row _ h hlink hlookup rfl
  mnemonic := hmn
  encodes := henc

/-- A slot of a second-level upper table: the mask is index and op6. -/
theorem RowOf.underUpper (op6 : BitVec 6) (hslot : r.slot = .upper) (hmask : r.mask = 0x7FF)
    (hvalue : r.value = upperWord 0#4 0#5 0#5 (BitVec.ofNat 5 k) op6) (hlink : upperLink op6.toNat = some table)
    (hlookup : table.lookup (BitVec.ofNat 5 k).toNat = some mk) (hmn : ∀ w, (mk w).mnemonic = r.mnemonic)
    (henc : ∀ p w, UnderUpper op6 w k → encoding p (mk w) = .word .upper (w &&& r.read)) :
    RowOf .upper decodeUpper (UnderUpper op6) r (k, mk) where
  slot_eq := hslot
  selects w := by
    rw [OpcodeRow.selects, beq_iff_eq, hmask, hvalue, eq_comm, upperWord_eq_lowerWord, lowerWord_eq_and, low_eq_and]
    simp [UnderUpper, eq_comm]
  decodes _ h := decodeUpper_sub _ _ h.2 h.1 hlink hlookup rfl
  mnemonic := hmn
  encodes := henc

/-- A slot of LOWER: the mask is op7. -/
theorem RowOf.lower (hslot : r.slot = .lower) (hmask : r.mask = 0xFE000000)
    (hvalue : r.value = lowerWord (BitVec.ofNat 7 k) 0#4 0#5 0#5 0#11) (hop : (BitVec.ofNat 7 k).toNat ≠ 0x40)
    (hlookup : lowerTable.lookup (BitVec.ofNat 7 k).toNat = some mk) (hmn : ∀ w, (mk w).mnemonic = r.mnemonic)
    (henc : ∀ p w, AtLower w k → encoding p (mk w) = .word .lower (w &&& r.read)) :
    RowOf .lower decodeLower AtLower r (k, mk) where
  slot_eq := hslot
  selects w := by
    rw [OpcodeRow.selects, beq_iff_eq, hmask, hvalue, eq_comm, lowerWord_eq_and]
    simp [eq_comm]
  decodes _ h := decodeLower_row _ h hop hlookup rfl
  mnemonic := hmn
  encodes := henc

/-- A slot of LOWEROP: the mask is op7 and sub6. -/
theorem RowOf.lowerOp (hslot : r.slot = .lower) (hmask : r.mask = 0xFE00003F)
    (hvalue : r.value = lowerWord 0x40#7 0#4 0#5 0#5 (0#5 ++ BitVec.ofNat 6 k))
    (hlink : lowerLink (BitVec.ofNat 6 k).toNat = none)
    (hlookup : lowerOpTable.lookup (BitVec.ofNat 6 k).toNat = some mk) (hmn : ∀ w, (mk w).mnemonic = r.mnemonic)
    (henc : ∀ p w, AtLowerOp w k → encoding p (mk w) = .word .lower (w &&& r.read)) :
    RowOf .lower decodeLower AtLowerOp r (k, mk) where
  slot_eq := hslot
  selects w := by
    rw [OpcodeRow.selects, beq_iff_eq, hmask, hvalue, eq_comm, lowerWord_eq_and, low_eq_and]
    simp [AtLowerOp, eq_comm]
  decodes _ h := decodeLower_op _ h.1 h.2 hlink hlookup rfl
  mnemonic := hmn
  encodes := henc

/-- A slot of a third-level lower table: the mask is op7, index and sub6. -/
theorem RowOf.underLowerOp (sub6 : BitVec 6) (hslot : r.slot = .lower) (hmask : r.mask = 0xFE0007FF)
    (hvalue : r.value = lowerWord 0x40#7 0#4 0#5 0#5 (BitVec.ofNat 5 k ++ sub6)) (hlink : lowerLink sub6.toNat = some table)
    (hlookup : table.lookup (BitVec.ofNat 5 k).toNat = some mk) (hmn : ∀ w, (mk w).mnemonic = r.mnemonic)
    (henc : ∀ p w, UnderLowerOp sub6 w k → encoding p (mk w) = .word .lower (w &&& r.read)) :
    RowOf .lower decodeLower (UnderLowerOp sub6) r (k, mk) where
  slot_eq := hslot
  selects w := by
    rw [OpcodeRow.selects, beq_iff_eq, hmask, hvalue, eq_comm, lowerWord_eq_and, low_eq_and]
    simp [UnderLowerOp, eq_comm]
  decodes _ h := decodeLower_sub _ _ h.1 h.2.2 h.2.1 hlink hlookup rfl
  mnemonic := hmn
  encodes := henc

end Levels

/-- Each slot of UPPER holds its row; the encoding is masked field by field, here and in the tables below. -/
theorem upperTable_rows : List.Forall₂ (RowOf .upper decodeUpper AtUpper) rowsUpper upperTable := by
  simp only [rowsUpper, upperTable, List.forall₂_cons, List.Forall₂.nil, and_true]
  and_intros <;> refine .upper rfl rfl rfl rfl rfl (fun _ => rfl) fun _ w h => congrArg (Encoding.word .upper) ?_
  all_goals
    simp only [upperWord_eq_lowerWord, lowerWord_eq_and, low_eq_and]
    simp [h, Field.fd]

/-- The rows of the tables that slots 0x3C to 0x3F of UPPER lead to. -/
def fdRows : List (List OpcodeRow) := [rowsFd00, rowsFd01, rowsFd10, rowsFd11]

theorem fdTables_rows :
    List.Forall₂ (fun rows link => List.Forall₂ (RowOf .upper decodeUpper (UnderUpper (BitVec.ofNat 6 link.1))) rows link.2)
      fdRows [(0x3C, fdTable00), (0x3D, fdTable01), (0x3E, fdTable10), (0x3F, fdTable11)] := by
  simp only [fdRows, rowsFd00, rowsFd01, rowsFd10, rowsFd11, fdTable00, fdTable01, fdTable10, fdTable11,
    List.forall₂_cons, List.Forall₂.nil, and_true]
  and_intros <;> refine .underUpper _ rfl rfl rfl rfl rfl (fun _ => rfl) fun _ w h => congrArg (Encoding.word .upper) ?_
  all_goals
    simp only [upperWord_eq_lowerWord, lowerWord_eq_and, low_eq_and]
    simp [h.1, h.2]

theorem lowerTable_rows : List.Forall₂ (RowOf .lower decodeLower AtLower) rowsLower lowerTable := by
  simp only [rowsLower, lowerTable, List.forall₂_cons, List.Forall₂.nil, and_true]
  and_intros <;> refine .lower rfl rfl rfl (by decide) rfl (fun _ => rfl) fun _ w h => congrArg (Encoding.word .lower) ?_
  all_goals simp [lowerWord_eq_and, lowerImm24_eq_and h, h]

theorem lowerOpTable_rows : List.Forall₂ (RowOf .lower decodeLower AtLowerOp) rowsLowerOp lowerOpTable := by
  simp only [rowsLowerOp, lowerOpTable, List.forall₂_cons, List.Forall₂.nil, and_true]
  and_intros <;> refine .lowerOp rfl rfl rfl rfl rfl (fun _ => rfl) fun _ w h => congrArg (Encoding.word .lower) ?_
  all_goals
    simp only [lowerWord_eq_and, low_eq_and]
    simp [h.1, h.2, Field.imm5]

/-- The rows of the tables that slots 0x3C to 0x3F of LOWEROP lead to. -/
def t3Rows : List (List OpcodeRow) := [rowsT300, rowsT301, rowsT310, rowsT311]

theorem t3Tables_rows :
    List.Forall₂ (fun rows link => List.Forall₂ (RowOf .lower decodeLower (UnderLowerOp (BitVec.ofNat 6 link.1))) rows link.2)
      t3Rows [(0x3C, t3Table00), (0x3D, t3Table01), (0x3E, t3Table10), (0x3F, t3Table11)] := by
  simp only [t3Rows, rowsT300, rowsT301, rowsT310, rowsT311, t3Table00, t3Table01, t3Table10, t3Table11,
    List.forall₂_cons, List.Forall₂.nil, and_true]
  and_intros <;> refine .underLowerOp _ rfl rfl rfl rfl rfl (fun _ => rfl) fun _ w h => congrArg (Encoding.word .lower) ?_
  all_goals
    simp only [lowerWord_eq_and, low_eq_and]
    simp [h.1, h.2.1, h.2.2]

/-! ### The whole opcode table -/

/-- What a lookup finds is listed under its key. -/
theorem mem_of_lookup {α : Type} {l : List (Nat × α)} {k : Nat} {x : α} (h : l.lookup k = some x) : (k, x) ∈ l := by
  obtain ⟨before, after, rfl, -⟩ := List.lookup_eq_some_iff.mp h
  simp

/-- Two related lists: each entry of either is related to an entry of the other. -/
theorem forall₂_mem {α β : Type} {R : α → β → Prop} {xs : List α} {ys : List β} (h : List.Forall₂ R xs ys) :
    (∀ x ∈ xs, ∃ y ∈ ys, R x y) ∧ ∀ y ∈ ys, ∃ x ∈ xs, R x y := by
  induction h with
  | nil => simp
  | cons hR _ ih =>
    exact ⟨List.forall_mem_cons.mpr ⟨⟨_, .head _, hR⟩, fun x hx => (ih.1 x hx).imp fun _ hy => ⟨.tail _ hy.1, hy.2⟩⟩,
      List.forall_mem_cons.mpr ⟨⟨_, .head _, hR⟩, fun y hy => (ih.2 y hy).imp fun _ hx => ⟨.tail _ hx.1, hx.2⟩⟩⟩

/-- The decoder of a slot reads the row `r` in every word that selects it, and encoding gives back the bits `r` reads. -/
structure Decodes (slot : Slot) (decoder : Word → Except DecodeError Instr) (r : OpcodeRow) : Prop where
  slot_eq : r.slot = slot
  reads : ∀ w, r.selects w = true →
    ∃ i, decoder w = .ok i ∧ i.mnemonic = r.mnemonic ∧ ∀ p, encoding p i = .word slot (w &&& r.read)

section Table

variable {slot : Slot} {decoder : Word → Except DecodeError Instr} {sel : Word → Nat → Prop} {rows : List OpcodeRow}
  {table : List (Nat × (Word → Instr))}

/-- A table's rows are read by its slot's decoder. -/
theorem decodes_of_rows (h : List.Forall₂ (RowOf slot decoder sel) rows table) {r : OpcodeRow} (hr : r ∈ rows) :
    Decodes slot decoder r := by
  obtain ⟨e, -, he⟩ := (forall₂_mem h).1 r hr
  refine ⟨he.slot_eq, fun w hw => ?_⟩
  have hsel := (he.selects w).mp hw
  exact ⟨e.2 w, he.decodes w hsel, he.mnemonic w, fun p => he.encodes p w hsel⟩

/-- A word that reaches an occupied slot of a table selects the slot's row. -/
theorem selects_of_lookup (h : List.Forall₂ (RowOf slot decoder sel) rows table) {k : Nat} {mk : Word → Instr}
    (hlookup : table.lookup k = some mk) {w : Word} (hsel : sel w k) : ∃ r ∈ rows, r.slot = slot ∧ r.selects w = true := by
  obtain ⟨r, hr, he⟩ := (forall₂_mem h).2 _ (mem_of_lookup hlookup)
  exact ⟨r, hr, he.slot_eq, (he.selects w).mpr hsel⟩

end Table

/-- The rows of the opcode table, by the tables of the dispatch. -/
theorem mem_opcodeTable {r : OpcodeRow} :
    r ∈ opcodeTable ↔ r ∈ rowsUpper ∨ (∃ rows ∈ fdRows, r ∈ rows) ∨ r ∈ rowsLower ∨ r ∈ rowsLowerOp
      ∨ ∃ rows ∈ t3Rows, r ∈ rows := by
  simp [opcodeTable, fdRows, t3Rows, or_assoc]

/-- Every row of the opcode table is read by the decoder of its slot. -/
theorem opcodeTable_decodes {r : OpcodeRow} (h : r ∈ opcodeTable) :
    Decodes .upper decodeUpper r ∨ Decodes .lower decodeLower r := by
  obtain h | ⟨rows, hrows, h⟩ | h | h | ⟨rows, hrows, h⟩ := mem_opcodeTable.mp h
  · exact .inl (decodes_of_rows upperTable_rows h)
  · obtain ⟨link, -, hlink⟩ := (forall₂_mem fdTables_rows).1 rows hrows
    exact .inl (decodes_of_rows hlink h)
  · exact .inr (decodes_of_rows lowerTable_rows h)
  · exact .inr (decodes_of_rows lowerOpTable_rows h)
  · obtain ⟨link, -, hlink⟩ := (forall₂_mem t3Tables_rows).1 rows hrows
    exact .inr (decodes_of_rows hlink h)

theorem decodes_upper {r : OpcodeRow} (h : r ∈ opcodeTable) (hslot : r.slot = .upper) : Decodes .upper decodeUpper r :=
  (opcodeTable_decodes h).resolve_right fun hother => by simp [hother.slot_eq] at hslot

theorem decodes_lower {r : OpcodeRow} (h : r ∈ opcodeTable) (hslot : r.slot = .lower) : Decodes .lower decodeLower r :=
  (opcodeTable_decodes h).resolve_left fun hother => by simp [hother.slot_eq] at hslot

theorem eq_ofNat_toNat {n : Nat} (v : BitVec n) : v = BitVec.ofNat n v.toNat := by
  rw [BitVec.ofNat_toNat, BitVec.setWidth_eq]

/-- An upper word that decodes selects an upper row. -/
theorem decodeUpper_ok_selects {w : Word} {i : Instr} (h : decodeUpper w = .ok i) :
    ∃ r ∈ opcodeTable, r.slot = .upper ∧ r.selects w = true := by
  unfold decodeUpper at h
  split at h <;> obtain ⟨mk, hlookup, -⟩ := selectRow_ok h
  · next table hlink =>
    obtain ⟨rows, hmem, hrows⟩ := (forall₂_mem fdTables_rows).2 _ (mem_of_lookup hlink)
    obtain ⟨r, hr, hsel⟩ := selects_of_lookup hrows hlookup ⟨eq_ofNat_toNat _, eq_ofNat_toNat _⟩
    exact ⟨r, mem_opcodeTable.mpr (.inr (.inl ⟨rows, hmem, hr⟩)), hsel⟩
  · obtain ⟨r, hr, hsel⟩ := selects_of_lookup upperTable_rows hlookup (eq_ofNat_toNat _)
    exact ⟨r, mem_opcodeTable.mpr (.inl hr), hsel⟩

/-- A lower word that decodes selects a lower row. -/
theorem decodeLower_ok_selects {w : Word} {i : Instr} (h : decodeLower w = .ok i) :
    ∃ r ∈ opcodeTable, r.slot = .lower ∧ r.selects w = true := by
  rw [decodeLower_eq] at h
  split_ifs at h with hop
  · have hop : bits 25 7 w = 0x40#7 := BitVec.eq_of_toNat_eq hop
    unfold decodeLowerOp at h
    split at h <;> obtain ⟨mk, hlookup, -⟩ := selectRow_ok h
    · next table hlink =>
      obtain ⟨rows, hmem, hrows⟩ := (forall₂_mem t3Tables_rows).2 _ (mem_of_lookup hlink)
      obtain ⟨r, hr, hsel⟩ := selects_of_lookup hrows hlookup ⟨hop, eq_ofNat_toNat _, eq_ofNat_toNat _⟩
      exact ⟨r, mem_opcodeTable.mpr (.inr (.inr (.inr (.inr ⟨rows, hmem, hr⟩)))), hsel⟩
    · obtain ⟨r, hr, hsel⟩ := selects_of_lookup lowerOpTable_rows hlookup ⟨hop, eq_ofNat_toNat _⟩
      exact ⟨r, mem_opcodeTable.mpr (.inr (.inr (.inr (.inl hr)))), hsel⟩
  · obtain ⟨mk, hlookup, -⟩ := selectRow_ok h
    obtain ⟨r, hr, hsel⟩ := selects_of_lookup lowerTable_rows hlookup (eq_ofNat_toNat _)
    exact ⟨r, mem_opcodeTable.mpr (.inr (.inr (.inl hr))), hsel⟩

/-- Two rows of one slot differ at a bit that both their masks hold (R108). -/
theorem opcodeTable_disjoint :
    opcodeTable.Pairwise fun r r' => r.slot = r'.slot → r.value &&& r'.mask ≠ r'.value &&& r.mask := by decide +kernel

/-- A word that selects two rows gives both the same value at the bits that both masks hold. -/
theorem values_agree_of_selects {r r' : OpcodeRow} {w : Word} (h : r.selects w = true) (h' : r'.selects w = true) :
    r.value &&& r'.mask = r'.value &&& r.mask := by
  rw [OpcodeRow.selects, beq_iff_eq] at h h'
  rw [← h, ← h', BitVec.and_assoc, BitVec.and_assoc, BitVec.and_comm r.mask]

/-- Settles O6: it holds, table by table. -/
theorem decodersFollowTheOpcodeTable : Obligations.DecodersFollowTheOpcodeTable := by
  refine ⟨opcodeTable_disjoint.imp fun hdiff hslot w ⟨h, h'⟩ => hdiff hslot (values_agree_of_selects h h'), fun w =>
    ⟨fun r hr hsel hslot => (decodes_upper hr hslot).reads w hsel,
      fun r hr hsel hslot => (decodes_lower hr hslot).reads w hsel, fun hnone => ?upper, fun hnone => ?lower⟩⟩
  case upper =>
    cases h : decodeUpper w with
    | error e => rw [decodeUpper_error h]
    | ok i =>
      obtain ⟨r, hr, hslot, hsel⟩ := decodeUpper_ok_selects h
      simp [hnone r hr hslot] at hsel
  case lower =>
    cases h : decodeLower w with
    | error e => rw [decodeLower_error h]
    | ok i =>
      obtain ⟨r, hr, hslot, hsel⟩ := decodeLower_ok_selects h
      simp [hnone r hr hslot] at hsel

/-! ### What a row does not read (R106) -/

/-- An instruction whose encoding is a word is well formed: only packets have a payload. -/
theorem wf_of_encoding_word {p : Params} {i : Instr} {slot : Slot} {w : Word} (h : encoding p i = .word slot w) :
    i.wf p = true := by
  unfold Instr.wf
  split
  · simp [encoding] at h
  · simp [encoding] at h
  · simp [encoding] at h
  · rfl

/-- Two instructions with one word as their encoding are the same: it decodes to both. -/
theorem eq_of_encoding_word {p : Params} (hp : p.ok) {i j : Instr} {slot : Slot} {w : Word}
    (hi : encoding p i = .word slot w) (hj : encoding p j = .word slot w) : i = j := by
  have h := decode_encode i p hp (wf_of_encoding_word hi) []
  rw [Instr.slot, encode, hi, ← hj, ← encode, ← Instr.slot, decode_encode j p hp (wf_of_encoding_word hj) []] at h
  exact (Prod.mk.inj (Except.ok.inj h)).1.symm

/-- Words that select a row and agree where it reads decode to one instruction. -/
theorem Decodes.congr {slot : Slot} {decoder : Word → Except DecodeError Instr} {r : OpcodeRow} (h : Decodes slot decoder r)
    {w w' : Word} (hw : r.selects w = true) (hw' : r.selects w' = true) (hread : w' &&& r.read = w &&& r.read) :
    decoder w' = decoder w := by
  obtain ⟨i, hi, -, henc⟩ := h.reads w hw
  obtain ⟨j, hj, -, henc'⟩ := h.reads w' hw'
  have hp : Params.suggested.ok := by decide
  rw [hi, hj, eq_of_encoding_word hp (henc _) (hread ▸ henc' _)]

/-- The bits a token of an operand template reads (R95, R96). -/
def Token.reads : Token → Word
  | .fd | .imm5 => 0x000007C0
  | .fs => 0x0000F800
  | .ft | .ftx | .fty | .ftz | .ftw => 0x001F0000
  | .fsSel => 0x0060F800
  | .ftSel => 0x019F0000
  | .id => 0x000003C0
  | .is | .baseIs | .incIs | .decIs => 0x00007800
  | .it | .incIt | .decIt => 0x000F0000
  | .vi1 | .acc | .q | .i | .p | .r => 0
  | .imm12 => 0x002007FF
  | .imm15 => 0x01E007FF
  | .imm24 => 0x00FFFFFF
  | .target => 0x000007FF
  | .offIs => 0x00007FFF
  | .offIt => 0x000F07FF

/-- A field inside a mask is the same in words that agree under the mask. -/
theorem bits_congr {low len : Nat} {w w' m : Word} (hm : bits low len m = BitVec.allOnes len)
    (h : w' &&& m = w &&& m) : bits low len w' = bits low len w := by
  have hfield := congrArg (bits low len) h
  rwa [bits_and, bits_and, hm, BitVec.and_allOnes, BitVec.and_allOnes] at hfield

/-- A token's operand depends on the bits it reads alone. -/
theorem Token.operand_congr {t : Token} {w w' a : Word} (h : w' &&& t.reads = w &&& t.reads) :
    t.operand w' a = t.operand w a := by
  cases t with
  | vi1 | acc | q | i | p | r => rfl
  | fd | fs | ft => exact congrArg Operand.vf (bits_congr rfl h)
  | ftx | fty | ftz | ftw => exact congrArg (Operand.vfc · _) (bits_congr rfl h)
  | fsSel | ftSel => exact congrArg₂ Operand.vfc (bits_congr rfl h) (bits_congr rfl h)
  | id | is | it => exact congrArg Operand.vi (bits_congr rfl h)
  | baseIs => exact congrArg Operand.memBase (bits_congr rfl h)
  | incIs | incIt => exact congrArg Operand.memInc (bits_congr rfl h)
  | decIs | decIt => exact congrArg Operand.memDec (bits_congr rfl h)
  | imm5 => exact congrArg (fun v : BitVec 5 => Operand.simm v.toInt) (bits_congr rfl h)
  | imm12 =>
    exact congrArg₂ (fun (hi : BitVec 1) (lo : BitVec 11) => Operand.simm (hi ++ lo).toInt)
      (bits_congr rfl h) (bits_congr rfl h)
  | imm15 =>
    exact congrArg₂ (fun (hi : BitVec 4) (lo : BitVec 11) => Operand.simm (hi ++ lo).toInt)
      (bits_congr rfl h) (bits_congr rfl h)
  | imm24 => exact congrArg (fun v : BitVec 24 => Operand.uimm v.toNat) (bits_congr rfl h)
  | target => exact congrArg (fun v => Operand.target (branchTarget a v)) (bits_congr rfl h)
  | offIs | offIt =>
    exact congrArg₂ (fun (v : BitVec 11) => Operand.memOff v.toInt) (bits_congr rfl h) (bits_congr rfl h)

/-- A row reads its opcode bits, the component mask it prints and the bits of its operands (R92, R94, R106). -/
theorem opcodeTable_reads : ∀ r ∈ opcodeTable, r.mask &&& r.read = r.mask
    ∧ (r.hasDest = true → 0x01E00000 &&& r.read = 0x01E00000) ∧ ∀ t ∈ r.operands, t.reads &&& r.read = t.reads := by
  decide +kernel

/-- Words that agree under a mask agree under any part of it. -/
theorem and_congr_of_subset {w w' m n : Word} (hn : n &&& m = n) (h : w' &&& m = w &&& m) : w' &&& n = w &&& n := by
  rw [← hn, BitVec.and_comm n, ← BitVec.and_assoc, ← BitVec.and_assoc, h]

/-- Words that agree where a row reads have one text. -/
theorem text_congr {r : OpcodeRow} (hr : r ∈ opcodeTable) {w w' : Word} (hread : w' &&& r.read = w &&& r.read) (a : Word) :
    r.text w' a = r.text w a := by
  obtain ⟨-, hdest, hoperands⟩ := opcodeTable_reads r hr
  have hops : r.operands.map (Token.operand w' a) = r.operands.map (Token.operand w a) :=
    List.map_congr_left fun t ht => Token.operand_congr (and_congr_of_subset (hoperands t ht) hread)
  rw [OpcodeRow.text, OpcodeRow.text, hops]
  split_ifs with hprinted
  · have hmask : Field.dest w' = Field.dest w := bits_congr rfl (and_congr_of_subset (hdest hprinted) hread)
    rw [hmask]
  · rfl

/-- Settles O7: it holds, by the encoding of what is decoded and by what each operand reads. -/
theorem ignoredBitsChangeNothing : Obligations.IgnoredBitsChangeNothing := by
  intro r hr w w' hsel hread
  obtain ⟨hmask, -, -⟩ := opcodeTable_reads r hr
  have hsel' : r.selects w' = true := by
    rw [OpcodeRow.selects, and_congr_of_subset hmask hread]
    exact hsel
  exact ⟨hsel', fun hslot => (decodes_upper hr hslot).congr hsel hsel' hread,
    fun hslot => (decodes_lower hr hslot).congr hsel hsel' hread, text_congr hr hread⟩

end Sys2Proof.Machine

/-! O1, O2 (40_bitfield_extract R140 to R143): what BFX answers with inside its precondition, and its port. -/

namespace Sys2Proof

/-- Inside its precondition BFX answers with the field between its bounds; a width of at most 64 loses none of its bits. -/
theorem extract_eq_some_bits {v : DWord} {lo hi : Nat} (hlo : lo ≤ hi) (hhi : hi ≤ 63) :
    extract v lo hi = some ((bits lo (hi - lo + 1) v).setWidth 64) := by
  have hfield : v.toNat / 2 ^ lo % 2 ^ (hi - lo + 1) < 2 ^ 64 :=
    (Nat.mod_le _ _).trans_lt ((Nat.div_le_self _ _).trans_lt v.isLt)
  rw [extract, if_pos ⟨hlo, hhi⟩]
  congr 1
  apply BitVec.eq_of_toNat_eq
  rw [BitVec.toNat_ofNat, Nat.mod_eq_of_lt hfield, BitVec.toNat_setWidth_of_le (by omega), bits,
    BitVec.extractLsb'_toNat, Nat.shiftRight_eq_div_pow]

/-- A field as a number is the shift and mask of its value. -/
theorem bits_toNat_eq_shift_and_mask {n : Nat} (low len : Nat) (v : BitVec n) :
    (bits low len v).toNat = (v.toNat >>> low) &&& ((1 <<< len) - 1) := by
  rw [bits, BitVec.extractLsb'_toNat, Nat.one_shiftLeft, Nat.and_two_pow_sub_one_eq_mod]

/-- Bit `i` of a field is bit `low + i` of its value, inside the field's length. -/
theorem bits_getLsbD {n : Nat} (low len i : Nat) (v : BitVec n) :
    (bits low len v).getLsbD i = (decide (i < len) && v.getLsbD (low + i)) := by
  rw [bits, BitVec.getLsbD_extractLsb']

/-- Settles O1: it holds, since BFX answers with the field, and a field is a shift and mask. -/
theorem extractIsShiftAndMask : Obligations.ExtractIsShiftAndMask := by
  intro v lo hi hlo hhi
  have hwidth : hi - lo + 1 ≤ 64 := by omega
  refine ⟨_, extract_eq_some_bits hlo hhi, ?number, fun i => ?bit⟩
  case number => rw [BitVec.toNat_setWidth_of_le hwidth, bits_toNat_eq_shift_and_mask]
  case bit =>
    rw [BitVec.getLsbD_setWidth, bits_getLsbD]
    by_cases hi64 : i < 64
    · simp [hi64]
    · have houtside : ¬ i < hi - lo + 1 := by omega
      simp [houtside]

end Sys2Proof

namespace Sys2Proof.Machine

/-- Where BFX has a value, its port answers with it. -/
theorem extractCall_of_some {v r : DWord} {lo hi : Nat} (h : extract v lo hi = some r) (s : State) :
    extractCall v lo hi s = .next { s with bfxOut := some r } := by
  rw [extractCall, h]

/-- Settles O2: it holds, since the step serves the call at the head of the queue. -/
theorem extractPortRefusesBadBounds : Obligations.ExtractPortRefusesBadBounds := by
  intro s v lo hi calls hactive hcall
  have hserved : step s = extractCall v lo hi { s with requests := calls } := step_idle_cons hactive hcall
  refine ⟨fun hbad => ⟨extract_eq_none_iff.mpr hbad, ?refused⟩, fun hlo hhi => ⟨_, extract_eq_some_bits hlo hhi, ?answered⟩⟩
  case refused => exact hserved.trans (extractCall_refused_iff.mpr ⟨rfl, hbad⟩)
  case answered => exact hserved.trans (extractCall_of_some (extract_eq_some_bits hlo hhi) _)

end Sys2Proof.Machine


/-! O11 to O14, O22, O27 to O29 (41_idec_dispatch_format R150 to R176): what IDEC's ports put out. The meaning in each slot
of the dispatch tables shows the line of its row of the opcode table; the four ports are read off from that. -/

namespace Sys2Proof.Machine

/-! ### The slots of the dispatch tables and the lines of the opcode table (R160, R167) -/

/-- The component mask a row prints, where it prints one (R163). -/
def OpcodeRow.shownDest (r : OpcodeRow) (w : Word) : Option (BitVec 4) := if r.hasDest then some (Field.dest w) else none

/-- The meaning in slot `e` of an upper table puts out the line of the row `r`, whatever the address (R152). -/
def ShowsUpper (r : OpcodeRow) (e : Nat × (Word → Instr)) : Prop :=
  ∀ (w a : Word) (s : State),
    exec (e.2 w) s = .next (s.putUpper r.mnemonic (r.shownDest w) (r.operands.map (Token.operand w a)))

/-- The meaning in slot `e` of a lower table puts out the line of the row `r` at the address on the port (R151, R162). -/
def ShowsLower (r : OpcodeRow) (e : Nat × (Word → Instr)) : Prop :=
  ∀ (w : Word) (s : State),
    exec (e.2 w) s
      = .next (s.putLower r.mnemonic (r.shownDest w) (r.operands.map (Token.operand w s.idec.lowerAddr)))

/-- In each slot the mnemonic, the printed mask and the operands of the meaning are those of the row, here and in the
tables below. -/
theorem upperTable_shows : List.Forall₂ ShowsUpper rowsUpper upperTable := by
  simp only [rowsUpper, upperTable, List.forall₂_cons, List.Forall₂.nil, and_true]
  and_intros <;> exact fun _ _ _ => rfl

theorem fdTables_show :
    List.Forall₂ (fun rows link => List.Forall₂ ShowsUpper rows link.2)
      fdRows [(0x3C, fdTable00), (0x3D, fdTable01), (0x3E, fdTable10), (0x3F, fdTable11)] := by
  simp only [fdRows, rowsFd00, rowsFd01, rowsFd10, rowsFd11, fdTable00, fdTable01, fdTable10, fdTable11,
    List.forall₂_cons, List.Forall₂.nil, and_true]
  and_intros <;> exact fun _ _ _ => rfl

theorem lowerTable_shows : List.Forall₂ ShowsLower rowsLower lowerTable := by
  simp only [rowsLower, lowerTable, List.forall₂_cons, List.Forall₂.nil, and_true]
  and_intros <;> exact fun _ _ => rfl

theorem lowerOpTable_shows : List.Forall₂ ShowsLower rowsLowerOp lowerOpTable := by
  simp only [rowsLowerOp, lowerOpTable, List.forall₂_cons, List.Forall₂.nil, and_true]
  and_intros <;> exact fun _ _ => rfl

theorem t3Tables_show :
    List.Forall₂ (fun rows link => List.Forall₂ ShowsLower rows link.2)
      t3Rows [(0x3C, t3Table00), (0x3D, t3Table01), (0x3E, t3Table10), (0x3F, t3Table11)] := by
  simp only [t3Rows, rowsT300, rowsT301, rowsT310, rowsT311, t3Table00, t3Table01, t3Table10, t3Table11,
    List.forall₂_cons, List.Forall₂.nil, and_true]
  and_intros <;> exact fun _ _ => rfl

/-! ### The row a word selects is the row it shows -/

/-- The row `r` is one of `slot`, and a word that selects it decodes to the meaning of a slot that shows `r`. -/
def Shown (slot : Slot) (decoder : Word → Except DecodeError Instr) (shows : OpcodeRow → Nat × (Word → Instr) → Prop)
    (r : OpcodeRow) : Prop :=
  r.slot = slot ∧ ∀ w, r.selects w = true → ∃ e, decoder w = .ok (e.2 w) ∧ shows r e

section Rows

variable {slot : Slot} {decoder : Word → Except DecodeError Instr} {shows : OpcodeRow → Nat × (Word → Instr) → Prop}

/-- One slot of a table both decodes a word to its meaning and shows the row. -/
theorem shown_of_rows {sel : Word → Nat → Prop} {rows : List OpcodeRow} {table : List (Nat × (Word → Instr))}
    (hrows : List.Forall₂ (RowOf slot decoder sel) rows table) (hshows : List.Forall₂ shows rows table) {r : OpcodeRow}
    (hr : r ∈ rows) : Shown slot decoder shows r := by
  have hboth : List.Forall₂ (fun r e => RowOf slot decoder sel r e ∧ shows r e) rows table :=
    List.Forall₂.mp (fun _ _ => And.intro) hrows hshows
  obtain ⟨e, -, hrow, hshown⟩ := (forall₂_mem hboth).1 r hr
  exact ⟨hrow.slot_eq, fun w hsel => ⟨e, hrow.decodes w ((hrow.selects w).mp hsel), hshown⟩⟩

/-- The same for the tables that the links of a table lead to. -/
theorem shown_of_links {sel : Nat → Word → Nat → Prop} {rowss : List (List OpcodeRow)}
    {links : List (Nat × List (Nat × (Word → Instr)))}
    (hrows : List.Forall₂ (fun rows link => List.Forall₂ (RowOf slot decoder (sel link.1)) rows link.2) rowss links)
    (hshows : List.Forall₂ (fun rows link => List.Forall₂ shows rows link.2) rowss links) {rows : List OpcodeRow}
    (hmem : rows ∈ rowss) {r : OpcodeRow} (hr : r ∈ rows) : Shown slot decoder shows r := by
  have hboth : List.Forall₂ (fun rows link => List.Forall₂ (RowOf slot decoder (sel link.1)) rows link.2
      ∧ List.Forall₂ shows rows link.2) rowss links := List.Forall₂.mp (fun _ _ => And.intro) hrows hshows
  obtain ⟨link, -, hlink, hshown⟩ := (forall₂_mem hboth).1 rows hmem
  exact shown_of_rows hlink hshown hr

end Rows

/-- Every row of the opcode table is shown by the dispatch of its slot. -/
theorem opcodeTable_shown {r : OpcodeRow} (h : r ∈ opcodeTable) :
    Shown .upper decodeUpper ShowsUpper r ∨ Shown .lower decodeLower ShowsLower r := by
  obtain h | ⟨rows, hrows, h⟩ | h | h | ⟨rows, hrows, h⟩ := mem_opcodeTable.mp h
  · exact .inl (shown_of_rows upperTable_rows upperTable_shows h)
  · exact .inl (shown_of_links (sel := fun k => UnderUpper (BitVec.ofNat 6 k)) fdTables_rows fdTables_show hrows h)
  · exact .inr (shown_of_rows lowerTable_rows lowerTable_shows h)
  · exact .inr (shown_of_rows lowerOpTable_rows lowerOpTable_shows h)
  · exact .inr (shown_of_links (sel := fun k => UnderLowerOp (BitVec.ofNat 6 k)) t3Tables_rows t3Tables_show hrows h)

/-! ### What a decoder of one word puts out (R151, R152, R159, R160) -/

/-- An upper word that selects a row puts out the row, the word's fields and the row's text; any address gives the text. -/
theorem runUpper_of_selects {r : OpcodeRow} (hr : r ∈ opcodeTable) (hslot : r.slot = .upper) {s : State}
    (hsel : r.selects s.idec.upper = true) (a : Word) :
    runUpper s = .next (s.setUpperRes (.instr r.mnemonic (Fields.ofUpper s.idec.upper) (r.text s.idec.upper a))) := by
  obtain ⟨-, hshown⟩ | ⟨hlower, -⟩ := opcodeTable_shown hr
  · obtain ⟨e, hdecode, hshows⟩ := hshown _ hsel
    exact (runUpper_ok hdecode).trans (hshows _ a s)
  · simp [hslot] at hlower

/-- A lower word that selects a row puts out the row, the word's fields and the row's text at the word's address. -/
theorem runLower_of_selects {r : OpcodeRow} (hr : r ∈ opcodeTable) (hslot : r.slot = .lower) {s : State}
    (hsel : r.selects s.idec.lower = true) :
    runLower s = .next (s.setLowerRes (.word (.instr r.mnemonic (Fields.ofLower s.idec.lower s.idec.lowerAddr)
      (r.text s.idec.lower s.idec.lowerAddr)))) := by
  obtain ⟨hupper, -⟩ | ⟨-, hshown⟩ := opcodeTable_shown hr
  · simp [hslot] at hupper
  · obtain ⟨e, hdecode, hshows⟩ := hshown _ hsel
    exact (runLower_ok hdecode).trans (hshows _ s)

/-- An upper word that selects no row puts out the sentinel (R159). -/
theorem runUpper_of_none {s : State}
    (hnone : ∀ r ∈ opcodeTable, r.slot = .upper → r.selects s.idec.upper = false) :
    runUpper s = .next (s.setUpperRes .bad) := by
  obtain ⟨-, hdispatch⟩ := decodersFollowTheOpcodeTable
  obtain ⟨-, -, hbad, -⟩ := hdispatch s.idec.upper
  simp only [runUpper, hbad hnone]

/-- A lower word that selects no row puts out the sentinel (R159). -/
theorem runLower_of_none {s : State}
    (hnone : ∀ r ∈ opcodeTable, r.slot = .lower → r.selects s.idec.lower = false) :
    runLower s = .next (s.setLowerRes (.word .bad)) := by
  obtain ⟨-, hdispatch⟩ := decodersFollowTheOpcodeTable
  obtain ⟨-, -, -, hbad⟩ := hdispatch s.idec.lower
  simp only [runLower, hbad hnone]

/-- Settles O11: it holds, since the slot a word reaches shows the row the word selects. -/
theorem upperCallReturnsTheSelectedRow : Obligations.UpperCallReturnsTheSelectedRow :=
  ⟨fun _ hr hslot _ a _ hsel => runUpper_of_selects hr hslot hsel a, fun _ _ _ hnone => runUpper_of_none hnone, rfl⟩

/-- Settles O12: it holds, as O11 does, with the address on the port in the branch target. -/
theorem lowerCallReturnsTheSelectedRow : Obligations.LowerCallReturnsTheSelectedRow :=
  ⟨fun _ hr hslot _ _ _ hsel => runLower_of_selects hr hslot hsel, fun _ _ _ hnone => runLower_of_none hnone⟩

/-! ### Totality and purity (R152, R153, R171) -/

/-- A slot's rows either hold one that a word selects, or none that it does. -/
theorem selects_or_none (slot : Slot) (w : Word) :
    (∃ r ∈ opcodeTable, r.slot = slot ∧ r.selects w = true)
      ∨ ∀ r ∈ opcodeTable, r.slot = slot → r.selects w = false := by
  rw [or_iff_not_imp_left]
  simp only [not_exists, not_and, Bool.not_eq_true, imp_self]

/-- The upper result is a function of the word alone (R152). -/
theorem runUpper_pure (w : Word) : ∃ r, ∀ s : State, s.idec.upper = w → runUpper s = .next (s.setUpperRes r) := by
  obtain ⟨r, hr, hslot, hsel⟩ | hnone := selects_or_none .upper w
  · refine ⟨.instr r.mnemonic (Fields.ofUpper w) (r.text w 0), fun s hw => ?_⟩
    subst hw
    exact runUpper_of_selects hr hslot hsel 0
  · refine ⟨.bad, fun s hw => ?_⟩
    subst hw
    exact runUpper_of_none hnone

/-- The lower result is a function of the word and its address (R151). -/
theorem runLower_pure (w a : Word) : ∃ r, ∀ s : State, s.idec.lower = w → s.idec.lowerAddr = a →
    runLower s = .next (s.setLowerRes (.word r)) := by
  obtain ⟨r, hr, hslot, hsel⟩ | hnone := selects_or_none .lower w
  · refine ⟨.instr r.mnemonic (Fields.ofLower w a) (r.text w a), fun s hw ha => ?_⟩
    subst hw ha
    exact runLower_of_selects hr hslot hsel
  · refine ⟨.bad, fun s hw _ => ?_⟩
    subst hw
    exact runLower_of_none hnone

/-- Settles O27: it holds, since the step serves the call and what it puts out depends on the input wires alone. -/
theorem wordDecodesAreTotalAndPure : Obligations.WordDecodesAreTotalAndPure := by
  refine ⟨fun w => ?upper, fun w a => ?lower⟩
  case upper =>
    obtain ⟨r, hrun⟩ := runUpper_pure w
    exact ⟨r, fun a s calls hactive hcall => (step_idle_cons hactive hcall).trans (hrun _ rfl)⟩
  case lower =>
    obtain ⟨r, hrun⟩ := runLower_pure w a
    exact ⟨r, fun s calls hactive hcall => (step_idle_cons hactive hcall).trans (hrun _ rfl rfl)⟩

/-! ### The pair wrapper (R168, R169, R173) -/

/-- With the I bit set the lower half of a pair is a float literal (R99, R109). -/
theorem runPairLower_immediate {s : State} (hbit : s.idec.upper.getLsbD 31 = true) :
    runPairLower s = .next (s.setLowerRes (.immFloat s.idec.lower (Config.fmtImmFloat s.idec.lower))) :=
  if_pos hbit

/-- With the I bit clear the lower half of a pair is a lower word (R168). -/
theorem runPairLower_word {s : State} (hbit : s.idec.upper.getLsbD 31 = false) : runPairLower s = runLower s :=
  if_neg (by simpa only [controlFlags, Bool.not_eq_true] using hbit)

/-- The lower half of a pair is a function of its two words and its address, in the form its I bit selects. -/
theorem runPairLower_pure (l u a : Word) : ∃ rl,
    (∀ s : State, s.idec.upper = u → s.idec.lower = l → s.idec.lowerAddr = a → runPairLower s = .next (s.setLowerRes rl))
    ∧ (u.getLsbD 31 = true → rl = .immFloat l (Config.fmtImmFloat l))
    ∧ (u.getLsbD 31 = false → ∀ s : State, ∃ t, decodeLowerCall l a s = .next t ∧ t.idec.lowerRes = some rl) := by
  cases hbit : u.getLsbD 31 with
  | true =>
    refine ⟨.immFloat l (Config.fmtImmFloat l), fun s hu hl _ => ?_, fun _ => rfl, nofun⟩
    subst hu hl
    exact runPairLower_immediate hbit
  | false =>
    obtain ⟨r, hrun⟩ := runLower_pure l a
    refine ⟨.word r, fun s hu hl ha => ?_, nofun, fun _ s => ⟨_, hrun _ rfl rfl, rfl⟩⟩
    subst hu
    rw [runPairLower_word hbit, hrun s hl ha]

/-- A pair call runs its upper half and then its lower half. -/
theorem decodePairCall_of_run {l u a : Word} {s t : State} (h : runUpper (s.setIdec (pairInput l u a)) = .next t) :
    decodePairCall l u a s = runPairLower t := by
  simp only [decodePairCall, h]

/-- Settles O28: it holds. The upper half writes its result wire alone, so the lower half finds the pair's words. -/
theorem pairDecodeHonoursTheImmediateBit : Obligations.PairDecodeHonoursTheImmediateBit := by
  intro l u a
  obtain ⟨ru, hupper⟩ := runUpper_pure u
  obtain ⟨rl, hlower, himm, hword⟩ := runPairLower_pure l u a
  refine ⟨ru, rl, fun s calls hactive hcall => ?pair, fun s => ⟨_, hupper _ rfl, rfl⟩, himm, hword⟩
  case pair =>
    have hrun : decodePairCall l u a { s with requests := calls } = _ := decodePairCall_of_run (hupper _ rfl)
    exact (step_idle_cons hactive hcall).trans (hrun.trans (hlower _ rfl rfl rfl))

/-- A range of an image is its first bytes and the bytes after them. -/
theorem Image.bytesFrom_add (img : Image) (a m n : Nat) :
    Image.bytesFrom img a (m + n) = Image.bytesFrom img a m ++ Image.bytesFrom img (a + m) n := by
  induction m generalizing a with
  | zero => simp [Image.bytesFrom]
  | succ m ih =>
    have hnext : a + 1 + m = a + (m + 1) := by omega
    rw [Nat.succ_add, Image.bytesFrom, ih, Image.bytesFrom, List.cons_append, hnext]

/-- The lower word of a pair is the first four of its bytes (R72). -/
theorem le32_pairBytes_lower (img : Image) (a : Nat) :
    le32 (Image.bytesFrom img a 8) = le32 (Image.bytesFrom img a 4) := by
  rw [Image.bytesFrom_add img a 4 4, ← le32_take _ 4 le_rfl, List.take_left' (Image.length_bytesFrom ..)]

/-- The upper word of a pair is the last four of its bytes (R72). -/
theorem le32_pairBytes_upper (img : Image) (a : Nat) :
    le32 ((Image.bytesFrom img a 8).drop 4) = le32 (Image.bytesFrom img (a + 4) 4) := by
  rw [Image.bytesFrom_add img a 4 4, List.drop_left' (Image.length_bytesFrom ..)]

/-- Inside its precondition `decodePairAt` is `decodePair` of the two words at the address. -/
theorem decodePairAtCall_ok {ref : SnapshotRef} {x : Snapshot} {a : Word} {s : State} (hx : s.resolve ref = .ok x)
    (hvalid : x.imemValid = true) (haligned : a.toNat % 8 = 0) (hend : a.toNat + 8 ≤ progBytes)
    (hwf : Image.wf progBytes x.imem = true) :
    decodePairAtCall ref a s = decodePairCall (le32 (Image.bytesFrom x.imem a.toNat 4))
      (le32 (Image.bytesFrom x.imem (a.toNat + 4) 4)) a s := by
  have hread : memRead x.imem progBytes a.toNat 8 = some (Image.bytesFrom x.imem a.toNat 8) :=
    memRead_eq_some.mpr ⟨hend, rfl⟩
  simp only [decodePairAtCall, hx, hvalid, haligned, hread, hwf, Bool.true_eq_false, ne_eq, not_true_eq_false, or_self,
    if_false, if_true, le32_pairBytes_lower, le32_pairBytes_upper]

/-- With no call in progress a call put at the head of the queue is served next. -/
theorem step_push {s : State} (hactive : s.active = .idle) (q : Request) (calls : List Request) :
    step { s with requests := q :: calls } = serve { s with requests := calls } q :=
  step_idle_cons (s := { s with requests := q :: calls }) hactive rfl

/-- Settles O29: it holds. Both calls are served at the head of the queue, and outside its precondition `decodePairAt` has
one reason to be refused. -/
theorem pairAtReadsTheCommittedImage : Obligations.PairAtReadsTheCommittedImage := by
  intro s ref x a calls hactive hcall hx hwf
  have hresolve : State.resolve { s with requests := calls } ref = .ok x := hx
  refine ⟨fun hvalid haligned hend => ?decoded, fun hbad => ?refused⟩
  case decoded =>
    rw [step_idle_cons hactive hcall, step_push hactive]
    exact decodePairAtCall_ok hresolve hvalid haligned hend hwf
  case refused =>
    exact (step_idle_cons hactive hcall).trans
      (decodePairAtCall_refused_iff.mpr (.inr ⟨x, hresolve, .inl ⟨rfl, hbad⟩⟩))

/-! ### The branch target (R162, R175) -/

/-- The branch target as an integer: the modulus keeps it from being negative. -/
theorem branchTarget_eq (a : Word) (imm11 : BitVec 11) :
    (branchTarget a imm11 : Int) = (((a.toNat / 4 : Nat) : Int) + 2 + imm11.toInt * 2) % 4096 * 4 := by
  rw [branchTarget, Nat.cast_mul, Int.toNat_of_nonneg (Int.emod_nonneg _ (by decide))]
  rfl

/-- Settles O13: it holds, by arithmetic on the masked formula. -/
theorem branchTargetWraps : Obligations.BranchTargetWraps := by
  intro a imm11 t
  have hformula : (t : Int) = (((a.toNat / 4 : Nat) : Int) + 2 + imm11.toInt * 2) % 4096 * 4 := branchTarget_eq a imm11
  generalize imm11.toInt = k at hformula ⊢
  refine ⟨hformula, ?multiple, ?bound, fun haligned => ⟨?pair, ?bytes⟩⟩ <;> omega

/-! ### The text of a mask and of a branch (R163, R167) -/

/-- Settles O14: it holds, by evaluating the sixteen masks. -/
theorem maskSuffixesAreTheSixteenOfTheTable : Obligations.MaskSuffixesAreTheSixteenOfTheTable := by
  unfold Obligations.MaskSuffixesAreTheSixteenOfTheTable
  exact ⟨by decide, by decide⟩

/-- A lower row without a component mask shows its mnemonic and its operands (R167). -/
theorem State.putLower_none_cons (s : State) (row : String) (op : Operand) (ops : List Operand) :
    s.putLower row none (op :: ops) = s.shownLower row (row ++ (" " ++ joinComma ((op :: ops).map render))) := by
  have hline : lineText row none (op :: ops) = row ++ (" " ++ joinComma ((op :: ops).map render)) := by
    simp only [lineText, String.append_empty]
  rw [State.putLower, hline]
  rfl

/-- Settles O22: it holds, row by row; each meaning puts out one line on the lower wire. -/
theorem branchRowsFormat : Obligations.BranchRowsFormat := by
  intro is it imm11 s
  and_intros <;> exact congrArg Host.Outcome.next (s.putLower_none_cons ..)

end Sys2Proof.Machine

/-! O15, O16 (42_vu_upper_main R200 to R247): a row of table UPPER puts out one line, of its mnemonic, its component mask and
its operands. -/

namespace Sys2Proof.Machine

/-- An upper row with a component mask shows its mnemonic, the mask's suffix and its operands (R163, R167), and changes the
upper result wire alone. -/
theorem State.putUpper_some_cons (s : State) (row : String) (dest : BitVec 4) (op : Operand) (ops : List Operand) :
    s.putUpper row (some dest) (op :: ops)
      = s.shownUpper row (row ++ destSuffix dest ++ (" " ++ joinComma ((op :: ops).map render))) := rfl

/-- Settles O15: it holds, row by row; the component that a row broadcasts is the letter its last operand shows. -/
theorem upperBroadcastRowsFormat : Obligations.UpperBroadcastRowsFormat := by
  intro dest fd fs ft s
  and_intros <;> exact congrArg Host.Outcome.next (s.putUpper_some_cons ..)

/-- Settles O16: it holds, row by row; Q and I are operands of their own, so those rows show no third register. -/
theorem upperQIAndPlainRowsFormat : Obligations.UpperQIAndPlainRowsFormat := by
  intro dest fd fs ft s
  and_intros <;> exact congrArg Host.Outcome.next (s.putUpper_some_cons ..)

end Sys2Proof.Machine

/-! O10 (30_encoding R100 to R105, R118): words of the spec's examples, each followed to its slot of the dispatch tables. -/

namespace Sys2Proof

/-- An upper word that reaches an empty slot of UPPER is no instruction (R105, R157). -/
theorem decodeUpper_empty {w : Word} (op6 : BitVec 6) (h : bits 0 6 w = op6) (hlink : upperLink op6.toNat = none)
    (hempty : upperTable.lookup op6.toNat = none) : decodeUpper w = .error .badInstruction := by
  simp only [decodeUpper, h, hlink]
  exact selectRow_error.mpr ⟨hempty, rfl⟩

/-- A lower word that reaches an empty slot of LOWER is no instruction (R105, R154). -/
theorem decodeLower_empty {w : Word} (op7 : BitVec 7) (h : bits 25 7 w = op7) (hop : op7.toNat ≠ 0x40)
    (hempty : lowerTable.lookup op7.toNat = none) : decodeLower w = .error .badInstruction := by
  rw [decodeLower_eq, h, if_neg hop]
  exact selectRow_error.mpr ⟨hempty, rfl⟩

/-- A tag byte and a payload of the tag's length are read as a packet, whatever bytes follow (R118, R452). -/
theorem decodePacket_of_kindOf {p : Params} {tag : Byte} {kind : PacketKind} {payload : List Byte}
    (hkind : p.kindOf tag = some kind) (hlen : payload.length = p.payloadLength kind) (rest : List Byte) :
    decodePacket p (tag :: (payload ++ rest)) = .ok (packetOf kind payload, rest) := by
  have hlong : ¬ (payload ++ rest).length < payload.length := by simp
  simp only [decodePacket, hkind, ← hlen, if_neg hlong, List.take_left, List.drop_left]

/-- Settles O10: it holds, by the slot each word reaches, the two empty slots among them, and the kind the tag names. -/
theorem sampleWordsDecode : Obligations.SampleWordsDecode := by
  refine ⟨?addx, ?addax, ?lq, ?iaddiu, ?b, ?move, ?emptyUpper, ?emptyLower, ?loadop⟩
  case addx => exact decodeUpper_row 0x00 rfl rfl rfl rfl
  case addax => exact decodeUpper_sub 0x3C 0x00 rfl rfl rfl rfl rfl
  case lq => exact decodeLower_row 0x00 rfl (by decide) rfl rfl
  case iaddiu => exact decodeLower_row 0x08 rfl (by decide) rfl rfl
  case b => exact decodeLower_row 0x20 rfl (by decide) rfl rfl
  case move => exact decodeLower_sub 0x3C 0x0C rfl rfl rfl rfl rfl rfl
  case emptyUpper => exact decodeUpper_empty 0x30 rfl rfl rfl
  case emptyLower => exact decodeLower_empty 0x02 rfl (by decide) rfl
  case loadop => exact decodePacket_of_kindOf (kind := .loadOp) (payload := [0x10, 0x32, 0, 0, 0x08, 0, 0, 0]) rfl rfl [0x50]

end Sys2Proof

/-! O4, O5, O48 to O50, O52 to O55 (46_gs_packet_decoder R400 to R424): GPD's fields, its step as equations, what a packet
is made of, and how a decode ends. -/

namespace Sys2Proof.Machine

/-! ### The fields of a tag and of an item (R405 to R409, R413 to R415) -/

/-- Inside its precondition BFX answers with the field of the length its bounds give. -/
theorem extract_eq_some_field {v : DWord} {lo hi len : Nat} (hlo : lo ≤ hi) (hhi : hi ≤ 63) (hlen : hi - lo + 1 = len) :
    extract v lo hi = some ((bits lo len v).setWidth 64) := by
  subst hlen
  exact extract_eq_some_bits hlo hhi

/-- BFX reads a single bit as 0 or 1. -/
theorem extract_bit (v : DWord) {i : Nat} (hi : i ≤ 63) : extract v i i = some (if v.getLsbD i then 1 else 0) := by
  have hbit : bits i 1 v = BitVec.ofBool (v.getLsbD i) := by
    apply BitVec.eq_of_getLsbD_eq
    intro j hj
    obtain rfl : j = 0 := by omega
    rw [bits_getLsbD]
    simp
  rw [extract_eq_some_field le_rfl hi (len := 1) (by omega), hbit]
  cases v.getLsbD i <;> rfl

/-- FLG as the value that a mode stands for (R112). -/
def Mode.flg : Mode → DWord
  | .packed => 0
  | .regList => 1
  | .image => 2
  | .disable => 3

/-- The mode of a value of FLG stands for that value (R407). -/
theorem flg_modeOf : ∀ flg : BitVec 2, (modeOf flg).flg = flg.setWidth 64 := by decide

/-- A tag has at most 16 registers (R408). -/
theorem effectiveCount_le (nreg : BitVec 4) : effectiveCount nreg ≤ 16 := by
  have := nreg.isLt
  unfold effectiveCount
  split <;> omega

/-- Entry `i` of a register list is nibble `i` (R409). -/
theorem registerList_getElem? (hi : DWord) {n i : Nat} (hin : i < n) :
    (registerList hi n)[i]? = some (bits (4 * i) 4 hi) := by
  simp [registerList, hin]

/-- Settles O4: it holds, field by field; a nibble of the high half is a field of four bits. -/
theorem gsTagFieldsAreExtracts : Obligations.GsTagFieldsAreExtracts := by
  intro lo hi t n
  refine ⟨extract_eq_some_bits (by decide) (by decide), extract_bit lo (by decide), extract_bit lo (by decide),
    extract_eq_some_bits (by decide) (by decide), extract_eq_some_bits (by decide) (by decide), ?mode, ?prim,
    tagOfBeat_regs lo hi, fun i hi' => ?nibble⟩
  case mode =>
    have hflg : extract lo 58 59 = some t.mode.flg := by
      rw [extract_eq_some_bits (by decide) (by decide), ← flg_modeOf]
      rfl
    exact hflg
  case prim =>
    refine ⟨?_, rfl, rfl, rfl, rfl, rfl, rfl, rfl, rfl⟩
    exact BitVec.extractLsb'_toNat ..
  case nibble =>
    have hcount : n ≤ 16 := effectiveCount_le t.nreg
    refine ⟨_, extract_eq_some_field (len := 4) (by omega) (by omega) (by omega), ?_⟩
    rw [BitVec.setWidth_setWidth_of_le _ (by decide), BitVec.setWidth_eq]
    exact registerList_getElem? hi hi'

/-- A field of 16 bits as a signed integer, from its value as BFX answers it (R147). -/
theorem toInt_eq_of_setWidth (v : BitVec 16) :
    v.toInt = if (v.setWidth 64).toNat < 2 ^ 15 then ((v.setWidth 64).toNat : Int)
      else ((v.setWidth 64).toNat : Int) - 2 ^ 16 := by
  rw [BitVec.toNat_setWidth_of_le (by decide), BitVec.toInt_eq_toNat_cond]
  split <;> split <;> omega

/-- Settles O5: it holds, by the register code. -/
theorem itemReadingFollowsItsRegisterCode : Obligations.ItemReadingFollowsItsRegisterCode := by
  intro reg lo hi
  refine ⟨?ad, ?xyzf2, fun hnotAd hnotXyzf2 => by rw [interpret, if_neg hnotAd, if_neg hnotXyzf2]⟩
  case ad =>
    rintro rfl
    exact ⟨_, extract_eq_some_bits (by decide) (by decide), rfl⟩
  case xyzf2 =>
    rintro rfl
    refine ⟨_, _, _, _, _, extract_eq_some_bits (by decide) (by decide), extract_eq_some_bits (by decide) (by decide),
      extract_eq_some_bits (by decide) (by decide), extract_eq_some_bits (by decide) (by decide),
      extract_bit hi (by decide), ?_⟩
    have hadc : decide ((if hi.getLsbD 47 then (1 : DWord) else 0) = 1) = hi.getLsbD 47 := by
      cases hi.getLsbD 47 <;> rfl
    rw [hadc, ← toInt_eq_of_setWidth, ← toInt_eq_of_setWidth]
    rfl

/-! ### What a packet is read from (R403, R405, R410, R412) -/

/-- Reading two runs of primitives is reading the first, and the second from the beat after it. -/
theorem PacketRead_append (img : Image) (addr : Nat) (front back : List GsPrimitive) :
    PacketRead img addr (front ++ back) ↔
      PacketRead img addr front ∧ PacketRead img (addr + 16 * beatsOf front) back := by
  induction front generalizing addr with
  | nil => simp [PacketRead, beatsOf]
  | cons p rest ih =>
    have hnext : addr + 16 * beatsOf (p :: rest) = addr + 16 * (1 + p.items.length) + 16 * beatsOf rest := by
      simp only [beatsOf, List.map_cons, List.sum_cons]
      omega
    simp only [List.cons_append, PacketRead, ih, hnext, and_assoc]

theorem PacketRead_singleton (img : Image) (addr : Nat) (p : GsPrimitive) :
    PacketRead img addr [p] ↔
      p.tag = tagOfBeat (le64 (Image.bytesFrom img addr 16)) (le64 ((Image.bytesFrom img addr 16).drop 8))
        ∧ ItemsRead img p.tag.regs (addr + 16) 0 p.items := by
  simp only [PacketRead, and_true]

/-- An item after others is the beat after theirs, under the slot that follows theirs. -/
theorem ItemsRead_concat (img : Image) (regs : List (BitVec 4)) (addr j : Nat) (items : List GsItem) (item : GsItem) :
    ItemsRead img regs addr j (items ++ [item]) ↔
      ItemsRead img regs addr j items
        ∧ ∃ reg, regs[(j + items.length) % regs.length]? = some reg
            ∧ item = readItem img (addr + 16 * items.length) reg := by
  induction items generalizing addr j with
  | nil => simp [ItemsRead]
  | cons x rest ih =>
    have hslot : j + 1 + rest.length = j + (x :: rest).length := by
      rw [List.length_cons]
      omega
    have haddr : addr + 16 + 16 * rest.length = addr + 16 * (x :: rest).length := by
      rw [List.length_cons]
      omega
    simp only [List.cons_append, ItemsRead, ih, hslot, haddr, and_assoc]

/-- A tag beat read at the end of a packet is a primitive of its own (R405, R410). -/
theorem PacketRead.openPrimitive {img : Image} {base : Nat} {packet : List GsPrimitive} (hread : PacketRead img base packet)
    {addr : Nat} (haddr : addr = base + 16 * beatsOf packet) :
    PacketRead img base (packet ++ [{
      tag := tagOfBeat (le64 (Image.bytesFrom img addr 16)) (le64 ((Image.bytesFrom img addr 16).drop 8)),
      items := [] }]) := by
  subst haddr
  rw [PacketRead_append, PacketRead_singleton]
  exact ⟨hread, rfl, trivial⟩

/-- The packet with an item added to its last primitive (R410). -/
theorem appendItem_of_getLast? {packet : List GsPrimitive} {last : GsPrimitive} (hlast : packet.getLast? = some last)
    (item : GsItem) : appendItem packet item = packet.dropLast ++ [{ last with items := last.items ++ [item] }] := by
  conv_lhs => rw [eq_concat_of_getLast? hlast]
  exact appendItem_concat _ _ _

/-- An item beat read at the end of a packet, under the slot that is next in loop-major order, extends the last primitive
(R410, R412). -/
theorem PacketRead.appendItem {img : Image} {base : Nat} {packet : List GsPrimitive} (hread : PacketRead img base packet)
    {addr : Nat} (haddr : addr = base + 16 * beatsOf packet) {last : GsPrimitive} (hlast : packet.getLast? = some last)
    {reg : BitVec 4} (hreg : last.tag.regs[last.items.length % last.tag.regs.length]? = some reg) :
    PacketRead img base (appendItem packet (readItem img addr reg)) := by
  have hpacket := eq_concat_of_getLast? hlast
  have hbeats : beatsOf packet = beatsOf packet.dropLast + 1 + last.items.length := by
    rw [← beatsOf_concat, ← hpacket]
  rw [hpacket, PacketRead_append, PacketRead_singleton] at hread
  obtain ⟨hfront, htag, hitems⟩ := hread
  rw [appendItem_of_getLast? hlast, PacketRead_append, PacketRead_singleton, ItemsRead_concat]
  refine ⟨hfront, htag, hitems, reg, by rwa [Nat.zero_add], ?_⟩
  congr 1
  omega

/-- While a decode runs in its item phase, the slot it reads is the one after the items read so far (R412). -/
theorem Gpd.slot_eq_items_mod {g : Gpd} (hw : g.Wf) (hrunning : g.status = .running) {l r : Nat}
    (hphase : g.phase = .items l r) {last : GsPrimitive} (hlast : g.packet.getLast? = some last) :
    last.items.length % last.tag.regs.length = r := by
  obtain ⟨-, -, -, -, -, -, hstatus⟩ := hw
  simp only [Gpd.StatusWf, hrunning, Gpd.PhaseWf, hphase] at hstatus
  obtain ⟨p, hp, -, -, hr, hlen⟩ := hstatus
  cases hlast.symm.trans hp
  rw [hlen, Nat.mul_add_mod_self_right, Nat.mod_eq_of_lt hr]

/-- A step of a running decode keeps the packet what stands in the image (R403, R405, R412). -/
theorem Gpd.step_packetRead {g g' : Gpd} (hw : g.Wf) (hrunning : g.status = .running)
    (hread : PacketRead g.dmem g.base g.packet) (h : g.step = .ok g') : PacketRead g'.dmem g'.base g'.packet := by
  have hcursor : g.base + g.cursor = g.base + 16 * beatsOf g.packet := by
    obtain ⟨-, -, -, hbeats, -⟩ := hw
    rw [hbeats]
  rcases Gpd.step_cases h with ⟨-, rfl⟩ | ⟨-, -, rfl⟩ | ⟨-, l, r, last, reg, hphase, hlast, hreg, rfl⟩
  case inl => exact hread
  case inr.inl =>
    obtain ⟨phase, status, htag⟩ := g.tagStep_eq (tagOfBeat (le64 (Image.bytesFrom g.dmem (g.base + g.cursor) 16))
      (le64 ((Image.bytesFrom g.dmem (g.base + g.cursor) 16).drop 8)))
    rw [htag]
    exact hread.openPrimitive hcursor
  case inr.inr =>
    rw [← Gpd.slot_eq_items_mod hw hrunning hphase hlast] at hreg
    obtain ⟨phase, status, hitem⟩ :=
      (g.addItem (g.itemAt reg (Image.bytesFrom g.dmem (g.base + g.cursor) 16))).afterItem_eq last.tag l r
    rw [hitem]
    exact hread.appendItem hcursor hlast hreg

/-- Settles O52: it holds, since a beat is read at the end of what was read before, a call begins with an empty packet, and
no other unit touches GPD. -/
theorem packetIsWhatStandsInTheWindow : Obligations.PacketIsWhatStandsInTheWindow := by
  refine ⟨fun s t hw hread h => ?step, Gpd.start_wf rfl (by decide), trivial⟩
  rcases step_cases h with ⟨-, h⟩ | ⟨-, h⟩ | ⟨-, -, rfl⟩ | ⟨-, q, calls, -, h⟩
  case step.inl =>
    rw [congrArg State.gpd (tsrStep_frame h)]
    exact ⟨hw, hread⟩
  case step.inr.inl =>
    rcases gpdStep_cases h with ⟨hrunning, g, hg, rfl⟩ | ⟨-, rfl⟩
    · exact ⟨Gpd.step_wf hw hrunning hg, Gpd.step_packetRead hw hrunning hread hg⟩
    · exact ⟨hw, hread⟩
  case step.inr.inr.inl => exact ⟨hw, hread⟩
  case step.inr.inr.inr =>
    rcases serve_cases h with ⟨_, rfl⟩ | ⟨_, rfl⟩ | ⟨img, off, avail, hwindow, himg, rfl⟩ | ⟨_, rfl⟩
    · exact ⟨hw, hread⟩
    · exact ⟨hw, hread⟩
    · exact ⟨Gpd.start_wf himg hwindow, trivial⟩
    · exact ⟨hw, hread⟩

/-! ### GPD's step as equations (R404, R405, R412) -/

/-- A beat that does not fit is not read (R404). -/
theorem Gpd.step_of_overrun {g : Gpd} (hlimit : g.limit < g.cursor + 16) {phase : Phase} (hphase : g.phase = phase) :
    g.step = .ok (g.stopPartial (.overrun phase.beat g.cursor)) := by
  rw [Gpd.step, if_pos hlimit, hphase]

/-- A beat that fits lies inside the image where the window does (R401). -/
theorem Gpd.memRead_beat {g : Gpd} (hwindow : g.base + g.limit ≤ dataBytes) (hfits : g.cursor + 16 ≤ g.limit) :
    memRead g.dmem dataBytes (g.base + g.cursor) 16 = some (Image.bytesFrom g.dmem (g.base + g.cursor) 16) := by
  rw [memRead, if_pos (by omega)]

/-- A tag beat that fits is read (R405). -/
theorem Gpd.step_of_tag {g : Gpd} (hwindow : g.base + g.limit ≤ dataBytes) (hfits : g.cursor + 16 ≤ g.limit)
    (hphase : g.phase = .tag) :
    g.step = .ok (g.tagStep (tagOfBeat (le64 (Image.bytesFrom g.dmem (g.base + g.cursor) 16))
      (le64 ((Image.bytesFrom g.dmem (g.base + g.cursor) 16).drop 8)))) := by
  simp only [Gpd.step, if_neg (not_lt.mpr hfits), Gpd.memRead_beat hwindow hfits, hphase]

/-- An item beat that fits is read, as the item that stands there, into the last primitive (R412). -/
theorem Gpd.step_of_item {g : Gpd} (hwindow : g.base + g.limit ≤ dataBytes) (hfits : g.cursor + 16 ≤ g.limit) {l r : Nat}
    (hphase : g.phase = .items l r) {p : GsPrimitive} (hlast : g.packet.getLast? = some p) {reg : BitVec 4}
    (hreg : p.tag.regs[r]? = some reg) :
    g.step = .ok ((g.addItem (readItem g.dmem (g.base + g.cursor) reg)).afterItem p.tag l r) := by
  simp only [Gpd.step, if_neg (not_lt.mpr hfits), Gpd.memRead_beat hwindow hfits, hphase, Gpd.itemStep, hlast, hreg]
  rfl

/-- What a step of a running decode leaves: GPD moved on, and the call over when GPD stopped (R518). -/
def State.afterBeat (s : State) (g : Gpd) : State :=
  if g.status = .running then { s with gpd := g } else { s with gpd := g, active := .idle }

theorem State.afterBeat_running (s : State) {g : Gpd} (h : g.status = .running) : s.afterBeat g = { s with gpd := g } :=
  if_pos h

theorem State.afterBeat_stopped (s : State) {g : Gpd} (h : g.status ≠ .running) :
    s.afterBeat g = { s with gpd := g, active := .idle } := if_neg h

/-- A step of a running decode is the step of GPD, and the call is over when GPD stopped. -/
theorem step_of_beat {s : State} (hactive : s.active = .packet) (hrunning : s.gpd.status = .running) {g : Gpd}
    (hg : s.gpd.step = .ok g) : step s = .next (s.afterBeat g) := by
  rw [step_packet hactive, gpdStep, if_pos hrunning, hg]
  dsimp only
  by_cases hgoes : g.status = .running
  · rw [s.afterBeat_running hgoes, if_pos hgoes, ← hactive]
  · rw [s.afterBeat_stopped hgoes, if_neg hgoes]

/-- Settles O49: it holds, branch by branch of the tag step. -/
theorem tagBeatStep : Obligations.TagBeatStep := by
  intro s hactive hrunning hphase hwindow g bytes t opened
  have hopened : opened.status = .running := hrunning
  have hstep : g.cursor + 16 ≤ g.limit → step s = .next (s.afterBeat (g.tagStep t)) := fun hfits =>
    step_of_beat hactive hrunning (Gpd.step_of_tag hwindow hfits hphase)
  have hcount : t.nloop.toNat * effectiveCount t.nreg = t.itemCount := by rw [GsTag.itemCount, tagOfBeat_regs]
  split
  · next hlimit =>
    rw [step_of_beat hactive hrunning (Gpd.step_of_overrun hlimit hphase), s.afterBeat_stopped (by simp)]
    rfl
  · next hlimit =>
    rw [hstep (not_lt.mp hlimit), Gpd.tagStep, hcount]
    congr 1
    split
    · exact s.afterBeat_stopped (by simp)
    · split
      · split
        · exact s.afterBeat_stopped (by simp)
        · exact s.afterBeat_running hopened
      · exact s.afterBeat_running hopened

/-- Settles O50: it holds, branch by branch of the advance after an item. -/
theorem itemBeatStep : Obligations.ItemBeatStep := by
  intro s l r p reg hactive hrunning hphase hlast hreg hwindow g item read
  have hread : g.addItem item = read := by
    rw [Gpd.addItem, appendItem_of_getLast? hlast]
  split
  · next hlimit =>
    rw [step_of_beat hactive hrunning (Gpd.step_of_overrun hlimit hphase), s.afterBeat_stopped (by simp)]
    rfl
  · next hlimit =>
    rw [step_of_beat hactive hrunning (Gpd.step_of_item hwindow (not_lt.mp hlimit) hphase hlast hreg), hread, Gpd.afterItem]
    congr 1
    split
    · exact s.afterBeat_running hrunning
    · split
      · exact s.afterBeat_running hrunning
      · split
        · exact s.afterBeat_stopped (by simp)
        · exact s.afterBeat_running hrunning

/-! ### The call, and the form of what it returns (R401, R417) -/

/-- Settles O48: it holds, by the tests of the call; the snapshot named does not depend on the queue. -/
theorem gsDecodeCallStartsAtTheWindow : Obligations.GsDecodeCallStartsAtTheWindow := by
  intro s ref x off n calls hactive hcall hx hvalid hcanonical
  have hresolve : ({ s with requests := calls } : State).resolve ref = .ok x := by
    rw [← hx]
    rfl
  rw [step_idle_cons hactive hcall]
  refine ⟨fun hinside => ?begins, fun houtside => ?refused⟩
  case begins =>
    simp only [serve, gsDecodeCall, hresolve, hvalid, hcanonical, Bool.true_eq_false, if_false, if_true,
      if_neg (not_lt.mpr hinside)]
    rfl
  case refused => exact gsDecodeCall_refused_iff.mpr (.inr ⟨x, hresolve, .inr (.inl ⟨rfl, hvalid, houtside⟩)⟩)

/-- The items a tag declares, by its effective register count (R408, R412). -/
theorem Gpd.itemCount_eq {g : Gpd} (hw : g.Wf) {p : GsPrimitive} (hp : p ∈ g.packet) :
    p.tag.itemCount = p.tag.nloop.toNat * effectiveCount p.tag.nreg := by
  obtain ⟨-, -, -, -, hregs, -⟩ := hw
  rw [GsTag.itemCount, hregs p hp]

/-- A packet still open has a last primitive that says so: more primitives or more items are to come (R404, R417). -/
theorem Gpd.open_of_phaseWf {g : Gpd} (h : g.PhaseWf) :
    g.packet = [] ∨ ∃ p, g.packet.getLast? = some p ∧ (p.tag.eop = false ∨ p.items.length < p.tag.itemCount) := by
  unfold Gpd.PhaseWf at h
  split at h
  · cases hlast : g.packet.getLast? with
    | none => exact .inl (List.getLast?_eq_none_iff.mp hlast)
    | some p => exact .inr ⟨p, rfl, .inl (h p hlast).2⟩
  · next l r _ =>
    obtain ⟨p, hlast, -, hl, hr, hlen⟩ := h
    have hloops : (l + 1) * p.tag.regs.length ≤ p.tag.itemCount := Nat.mul_le_mul_right _ hl
    rw [Nat.succ_mul] at hloops
    exact .inr ⟨p, hlast, .inr (by omega)⟩

/-- Settles O53: it holds, by what the invariant says of each terminal status. -/
theorem returnedPacketsHaveTheFormOfTheirDiagnostic : Obligations.ReturnedPacketsHaveTheFormOfTheirDiagnostic := by
  intro s packet diag hw hresult
  have hcount := fun p => Gpd.itemCount_eq (p := p) hw
  obtain ⟨-, -, -, -, -, hearlier, hstatus⟩ := hw
  unfold State.gsResult at hresult
  split at hresult
  · cases hresult
  · next hs =>
    cases hresult
    rw [Gpd.StatusWf, hs] at hstatus
    obtain ⟨p, hlast, hfull, heop⟩ := hstatus
    have hall : ∀ q ∈ s.gpd.packet, q.Full := by
      rw [eq_concat_of_getLast? hlast, List.forall_mem_append, List.forall_mem_singleton]
      exact ⟨fun q hq => (hearlier q hq).1, hfull⟩
    refine ⟨p, hlast, heop, fun q hq => (hearlier q hq).2, fun q hq => ?_⟩
    obtain ⟨hmode, hlen⟩ := hall q hq
    exact ⟨hmode, hlen.trans (hcount q hq)⟩
  · next d hs =>
    cases hresult
    rw [Gpd.StatusWf, hs] at hstatus
    cases d with
    | overrun what pos =>
      obtain ⟨hphase, -⟩ := hstatus
      rcases Gpd.open_of_phaseWf hphase with hnil | ⟨p, hlast, hopen⟩
      · exact .inl hnil
      · exact .inr ⟨p, hlast, hcount p (List.mem_of_getLast? hlast) ▸ hopen⟩
    | unsupportedMode m =>
      obtain ⟨hm, p, hlast, hmode, hitems⟩ := hstatus
      exact ⟨p, hlast, hmode, hm, hitems⟩

/-! ### How a decode ends (R418) -/

theorem Gpd.tagStep_cursor (g : Gpd) (t : GsTag) : (g.tagStep t).cursor = g.cursor + 16 := by
  obtain ⟨phase, status, htag⟩ := g.tagStep_eq t
  rw [htag]
  rfl

theorem Gpd.afterItem_cursor (g : Gpd) (t : GsTag) (l r : Nat) : (g.afterItem t l r).cursor = g.cursor := by
  obtain ⟨phase, status, hafter⟩ := g.afterItem_eq t l r
  rw [hafter]

/-- A decode that goes on after a step has read a beat (R403, R404). -/
theorem Gpd.step_cursor_of_running {g g' : Gpd} (h : g.step = .ok g') (hrunning : g'.status = .running) :
    g'.cursor = g.cursor + 16 := by
  rcases Gpd.step_cases h with ⟨-, rfl⟩ | ⟨-, -, rfl⟩ | ⟨-, l, r, last, reg, -, -, -, rfl⟩
  · cases hrunning
  · exact Gpd.tagStep_cursor ..
  · exact Gpd.afterItem_cursor ..

theorem Gpd.cursor_le_limit {g : Gpd} (hw : g.Wf) : g.cursor ≤ g.limit := by
  obtain ⟨-, -, hinside, -⟩ := hw
  exact hinside

/-- A step of a call in progress ends it, or reads one beat inside the window and goes on (R403, R404, R518). -/
theorem gpdStep_progress {s t : State} (hw : s.gpd.Wf) (h : gpdStep s = .next t) :
    t.gpd.Wf ∧ t.gpd.limit = s.gpd.limit
      ∧ ((t.active = .idle ∧ t.gpd.status ≠ .running)
        ∨ (t.active = .packet ∧ t.gpd.cursor = s.gpd.cursor + 16 ∧ t.gpd.cursor ≤ t.gpd.limit)) := by
  rcases gpdStep_cases h with ⟨hrunning, g, hg, rfl⟩ | ⟨hstopped, rfl⟩
  · have hg' := Gpd.step_wf hw hrunning hg
    refine ⟨hg', (congrArg Gpd.limit (Gpd.step_window hg) :), ?_⟩
    by_cases hgoes : g.status = .running
    · exact .inr ⟨if_pos hgoes, Gpd.step_cursor_of_running hg hgoes, Gpd.cursor_le_limit hg'⟩
    · exact .inl ⟨if_neg hgoes, hgoes⟩
  · exact ⟨hw, rfl, .inl ⟨rfl, hstopped⟩⟩

/-- A step of a call in progress answers where GPD satisfies its invariant. -/
theorem gpdStep_answers {s : State} (hw : s.gpd.Wf) : ∃ t, gpdStep s = .next t := by
  by_cases hrunning : s.gpd.status = .running
  · obtain ⟨g, hg⟩ := Gpd.step_isOk hw hrunning
    exact ⟨_, by rw [gpdStep, if_pos hrunning, hg]⟩
  · exact ⟨_, if_neg hrunning⟩

/-- A run goes on from the state its first step leaves. -/
theorem run_succ_of_step (M : Host.Core) {s t : M.State} (h : M.step s = .next t) (n : Nat) : M.run (n + 1) s = M.run n t := by
  simp only [Host.Core.run, h]

/-- A call in progress is over after at most `beats + 1` steps, `beats` the whole beats left in its window (R418). -/
theorem gsDecode_ends {s : State} (hw : s.gpd.Wf) (hactive : s.active = .packet) {beats : Nat}
    (hbeats : (s.gpd.limit - s.gpd.cursor) / 16 ≤ beats) :
    ∃ n, ∃ t : State, n ≤ beats + 1 ∧ core.run n s = .next t ∧ t.active = .idle ∧ t.gpd.status ≠ .running ∧ t.gpd.Wf := by
  induction beats generalizing s with
  | zero =>
    obtain ⟨t, ht⟩ := gpdStep_answers hw
    obtain ⟨hwt, hlimit, ⟨hidle, hstopped⟩ | ⟨-, hcursor, hinside⟩⟩ := gpdStep_progress hw ht
    · exact ⟨1, t, le_rfl, run_succ_of_step core ((step_packet hactive).trans ht) 0, hidle, hstopped, hwt⟩
    · omega
  | succ beats ih =>
    obtain ⟨t, ht⟩ := gpdStep_answers hw
    have hstep := (step_packet hactive).trans ht
    obtain ⟨hwt, hlimit, ⟨hidle, hstopped⟩ | ⟨hgoes, hcursor, hinside⟩⟩ := gpdStep_progress hw ht
    · exact ⟨1, t, by omega, run_succ_of_step core hstep 0, hidle, hstopped, hwt⟩
    · obtain ⟨n, u, hn, hrun, hu⟩ := ih hwt hgoes (by omega)
      exact ⟨n + 1, u, by omega, (run_succ_of_step core hstep n).trans hrun, hu⟩

/-- Settles O54: it holds, by induction on the whole beats left; the invariant counts the beats read. -/
theorem gsDecodeTerminates : Obligations.GsDecodeTerminates := by
  refine ⟨fun s hw hactive => ?ends, fun s t hw hactive h => ?advances⟩
  case ends =>
    obtain ⟨n, t, hn, hrun, hidle, hstopped, -, -, hinside, hcursor, -⟩ := gsDecode_ends hw hactive le_rfl
    exact ⟨n, t, hn, hrun, hidle, hstopped, hinside, hcursor⟩
  case advances =>
    rw [step_packet hactive] at h
    obtain ⟨-, -, ⟨hidle, -⟩ | ⟨-, hread⟩⟩ := gpdStep_progress hw h
    · exact .inl hidle
    · exact .inr hread

/-! ### What a decode reads (R424) -/

/-- GPD over another image. -/
def Gpd.onImage (g : Gpd) (img : Image) : Gpd := { g with dmem := img }

/-- A tag beat uses the image for nothing but the tag it was given. -/
theorem Gpd.tagStep_onImage (g : Gpd) (img : Image) (t : GsTag) : (g.onImage img).tagStep t = (g.tagStep t).onImage img := by
  simp only [Gpd.tagStep, apply_ite (Gpd.onImage · img)]
  rfl

/-- The advance after an item does not use the image. -/
theorem Gpd.afterItem_onImage (g : Gpd) (img : Image) (t : GsTag) (l r : Nat) :
    (g.onImage img).afterItem t l r = (g.afterItem t l r).onImage img := by
  simp only [Gpd.afterItem, apply_ite (Gpd.onImage · img)]
  rfl

/-- A step of GPD reads the image inside its window alone. -/
theorem Gpd.step_onImage {g g' : Gpd} {img : Image} (hwindow : g.base + g.limit ≤ dataBytes)
    (hagree : ∀ a, g.base ≤ a → a < g.base + g.limit → Image.byte g.dmem a = Image.byte img a)
    (h : g.step = .ok g') : (g.onImage img).step = .ok (g'.onImage img) := by
  have hbeat : g.cursor + 16 ≤ g.limit →
      Image.bytesFrom g.dmem (g.base + g.cursor) 16 = Image.bytesFrom img (g.base + g.cursor) 16 := fun hfits =>
    Image.bytesFrom_congr fun a hlow hhigh => hagree a (by omega) (by omega)
  rcases Gpd.step_cases h with ⟨hlimit, rfl⟩ | ⟨hfits, hphase, rfl⟩ |
    ⟨hfits, l, r, last, reg, hphase, hlast, hreg, rfl⟩
  · exact Gpd.step_of_overrun (g := g.onImage img) hlimit rfl
  · rw [hbeat hfits, ← Gpd.tagStep_onImage]
    exact Gpd.step_of_tag (g := g.onImage img) hwindow hfits hphase
  · rw [hbeat hfits, ← Gpd.afterItem_onImage]
    exact Gpd.step_of_item (g := g.onImage img) hwindow hfits hphase hlast hreg

/-- Settles O55: it holds, since the only bytes a step uses are those of a beat that fits, and by the frame of the unit. -/
theorem gpdReadsOnlyItsWindow : Obligations.GpdReadsOnlyItsWindow := by
  refine ⟨fun g g' img hwindow hagree h => Gpd.step_onImage hwindow hagree h, fun s t hactive h => ?_⟩
  rw [step_packet hactive] at h
  rw [gpdStep_frame h]
  exact ⟨rfl, rfl, rfl, rfl⟩

end Sys2Proof.Machine

/-! O41, O42, O31, O33, O35, O37, O39, O40, O30, O32, O38 (47_trace_stream_reader): what a packet changes, what one step of
a `traceRead` does, and what a whole `traceRead` returns. -/

namespace Sys2Proof.Machine

/-! ### What a packet changes (R455 to R462) -/

/-- What a packet makes of the accumulator (R455 to R460). -/
def Snapshot.afterPacket (x : Snapshot) : Instr → Snapshot
  | .pushsnapshot => { x with pendingLoad := none, pendingStore := none }
  | .setregisters payload => { x with regs := Image.ofBytes payload, regsValid := true }
  | .setmemory payload => { x with dmem := Image.ofBytes payload, dmemValid := true }
  | .setinstructions payload => { x with imem := Image.ofBytes payload, imemValid := true }
  | .loadop addr size => { x with pendingLoad := some ⟨addr, size⟩ }
  | .storeop addr size => { x with pendingStore := some ⟨addr, size⟩ }
  | _ => x

/-- A packet that is no commit writes the accumulator alone (R456 to R460). -/
theorem exec_of_ne_pushsnapshot {p : Params} {i : Instr} (hslot : i.slot p = .packet) (hcommit : i ≠ .pushsnapshot)
    (s : State) : exec i s = .next (s.setAcc (s.tsr.acc.afterPacket i)) := by
  cases i with
  | pushsnapshot => exact absurd rfl hcommit
  | setregisters | setmemory | setinstructions | loadop | storeop => rfl
  | _ => cases hslot

/-- A commit whose EXH update is `e` (R455, R491, R505). -/
theorem exec_pushsnapshot {s : State} {e : Exh}
    (he : if s.params.hasExh then s.exh.onCommit s.params s.tsr.acc s.tsr.snapshots.length = some e else e = s.exh) :
    exec .pushsnapshot s = .next (s.appendSnapshot.setExh e).clearPending := by
  show execPushsnapshot s = _
  unfold execPushsnapshot
  split at he
  · next hexh => rw [if_pos hexh, he]
  · next hexh =>
    rw [if_neg hexh, he]
    rfl

/-- With legal parameters EXH has an update for every commit (log 13). -/
theorem exh_update_exists {s : State} (hp : s.params.ok) :
    ∃ e, if s.params.hasExh then s.exh.onCommit s.params s.tsr.acc s.tsr.snapshots.length = some e else e = s.exh := by
  split
  · exact Option.isSome_iff_exists.mp (Exh.onCommit_isSome hp _ _ _)
  · exact ⟨_, rfl⟩

/-- With legal parameters every packet completes. -/
theorem exec_packet_answers {s : State} (hp : s.params.ok) {i : Instr} (hslot : i.slot s.params = .packet) :
    ∃ t, exec i s = .next t := by
  by_cases hcommit : i = .pushsnapshot
  · subst hcommit
    obtain ⟨e, he⟩ := exh_update_exists hp
    exact ⟨_, exec_pushsnapshot he⟩
  · exact ⟨_, exec_of_ne_pushsnapshot hslot hcommit s⟩

/-- The rows of a pair's words do not touch TSR (R30). -/
theorem exec_word_tsr {p : Params} {i : Instr} (hslot : i.slot p ≠ .packet) {s t : State} (h : exec i s = .next t) :
    t.tsr = s.tsr := by
  cases hi : i.slot p with
  | upper =>
    obtain ⟨dest, ops, hnext⟩ := exec_upper hi s
    cases h.symm.trans hnext
    rfl
  | lower =>
    obtain ⟨dest, ops, hnext⟩ := exec_lower hi s
    cases h.symm.trans hnext
    rfl
  | packet => exact absurd hi hslot

/-- A packet leaves the committed snapshots as they are, or adds the accumulator at the end (R455, R465). -/
theorem exec_packet_snapshots {p : Params} {i : Instr} (hslot : i.slot p = .packet) {s t : State}
    (h : exec i s = .next t) :
    t.tsr.snapshots = s.tsr.snapshots ∨ t.tsr.snapshots = s.tsr.snapshots ++ [s.tsr.acc] := by
  rcases exec_packet hslot h with ⟨-, e, rfl, -⟩ | ⟨_, -, rfl⟩ | ⟨_, -, rfl⟩ | ⟨_, -, rfl⟩ | ⟨_, _, -, rfl⟩ |
    ⟨_, _, -, rfl⟩
  · exact .inr rfl
  all_goals exact .inl rfl

/-- Settles O31: it holds, since a payload's image reads back the payload. -/
theorem setPacketsReplaceOneComponent : Obligations.SetPacketsReplaceOneComponent := by
  intro s payload
  have hbytes := Image.byte_ofBytes payload
  exact ⟨⟨_, _, rfl, rfl, hbytes, fun hlen => Image.wf_ofBytes hlen.le⟩,
    ⟨_, _, rfl, rfl, hbytes, fun hlen => Image.wf_ofBytes hlen.le⟩,
    ⟨_, _, rfl, rfl, hbytes, fun hlen => Image.wf_ofBytes hlen.le⟩⟩

/-- Settles O32: it holds; the payload's two words are read back in the order of D25. -/
theorem pendingPacketsReplaceOneField : Obligations.PendingPacketsReplaceOneField := by
  intro s addr size
  have hdrop : (leBytes 4 addr.toNat ++ leBytes 4 size.toNat).drop 4 = leBytes 4 size.toNat := rfl
  refine ⟨rfl, rfl, ?_, ?_⟩ <;> simp only [packetOf, hdrop, le32_leBytes_append, le32_leBytes]

/-- Settles O33: it holds, since legal parameters give every commit its EXH update. -/
theorem pushSnapshotCommitsTheAccumulator : Obligations.PushSnapshotCommitsTheAccumulator := by
  intro s hp
  obtain ⟨e, he⟩ := exh_update_exists hp
  exact ⟨e, exec_pushsnapshot he, fun hexh => by rwa [if_pos hexh] at he, fun hexh => by simpa [hexh] using he⟩

/-- Settles O35: it holds. A word's row leaves TSR alone, and each packet writes the part of the accumulator it names. -/
theorem accumulatorIsSticky : Obligations.AccumulatorIsSticky := by
  intro i s t h
  by_cases hslot : i.slot s.params = .packet
  · rcases exec_packet hslot h with ⟨rfl, e, rfl, -⟩ | ⟨bs, rfl, rfl⟩ | ⟨bs, rfl, rfl⟩ | ⟨bs, rfl, rfl⟩ |
      ⟨a, z, rfl, rfl⟩ | ⟨a, z, rfl, rfl⟩ <;>
      simp
  · have htsr := exec_word_tsr hslot h
    simp only [htsr, implies_true, and_self, true_and]
    rintro rfl
    exact absurd rfl hslot

/-! ### One step of a `traceRead` (R452 to R454, R466, R468) -/

/-- A byte names no kind of packet exactly when it is none of the tags (R453). -/
theorem kindOf_eq_none_iff {p : Params} {b : Byte} : p.kindOf b = none ↔ b ∉ p.tags := by
  simp only [Params.kindOf, Params.tags, List.mem_cons, List.not_mem_nil, or_false, not_or]
  split_ifs <;> simp [*]

/-- The packet decoder among the decoders. -/
theorem decode_packet_eq_ok {p : Params} {bytes rest : List Byte} {i : Instr} :
    decode p .packet bytes = .ok (i, rest) ↔ decodePacket p bytes = .ok (i, rest) := by
  simp only [decode]
  split <;> simp [*]

/-- The bytes not read begin with the byte at the cursor. -/
theorem Tsr.rest_of_getElem? {t : Tsr} {b : Byte} (h : t.stream[t.cursor]? = some b) :
    t.rest = b :: t.stream.drop (t.cursor + 1) := by
  obtain ⟨hlt, rfl⟩ := List.getElem?_eq_some_iff.mp h
  exact List.drop_eq_getElem_cons hlt

/-- At the end of the stream the call ends `Done` (R466). -/
theorem step_of_endOfStream {s : State} (hactive : s.active = .trace) (hrunning : s.tsr.status = .running)
    (hrest : s.tsr.rest = []) : step s = .next s.traceDone := by
  simp only [step_trace hactive, tsrStep, if_pos hrunning, hrest, decodePacket]

/-- At a byte that is no tag the call ends `Fatal(BadTag)`, whatever follows (R453). -/
theorem step_of_badTag {s : State} (hactive : s.active = .trace) (hrunning : s.tsr.status = .running) {b : Byte}
    {tail : List Byte} (hrest : s.tsr.rest = b :: tail) (hkind : s.params.kindOf b = none) :
    step s = .next (s.raiseFatal (.badTag b s.tsr.cursor)) := by
  simp only [step_trace hactive, tsrStep, if_pos hrunning, hrest, decodePacket, hkind]

/-- At a tag with fewer bytes than its payload the call ends `Fatal(Truncated)` (R454). -/
theorem step_of_truncated {s : State} (hactive : s.active = .trace) (hrunning : s.tsr.status = .running) {b : Byte}
    {tail : List Byte} (hrest : s.tsr.rest = b :: tail) {kind : PacketKind} (hkind : s.params.kindOf b = some kind)
    (hshort : tail.length < s.params.payloadLength kind) :
    step s = .next (s.raiseFatal (.truncated b s.tsr.cursor (s.params.payloadLength kind) tail.length)) := by
  simp only [step_trace hactive, tsrStep, if_pos hrunning, hrest, decodePacket, hkind, if_pos hshort]

/-- Settles O30: it holds; the cursor is moved past the bytes the packet used. -/
theorem traceStepAppliesTheDecodedPacket : Obligations.TraceStepAppliesTheDecodedPacket := by
  intro s i rest hactive hrunning hdecode
  have hpacket : decodePacket s.params s.tsr.rest = .ok (i, rest) := decode_packet_eq_ok.mp hdecode
  have hcursor : s.tsr.cursor + (s.tsr.rest.length - rest.length) = s.tsr.stream.length - rest.length := by
    obtain ⟨-, -, hused, -⟩ := decodePacket_wf hpacket
    simp only [Tsr.rest, List.length_drop] at *
    omega
  simp only [step_trace hactive, tsrStep, if_pos hrunning, hpacket, hcursor]
  rfl

/-- Settles O37: it holds, check by check in the order of R468. -/
theorem traceEndsInTheOrderOfItsChecks : Obligations.TraceEndsInTheOrderOfItsChecks := by
  intro s hactive hrunning
  refine ⟨fun hend => ?endOfStream, fun b hb htag => ?badTag, fun b kind hb hkind hshort => ?truncated⟩
  case endOfStream => exact step_of_endOfStream hactive hrunning (List.drop_eq_nil_of_le hend.ge)
  case badTag => exact step_of_badTag hactive hrunning (Tsr.rest_of_getElem? hb) (kindOf_eq_none_iff.mpr htag)
  case truncated =>
    have hleft : (s.tsr.stream.drop (s.tsr.cursor + 1)).length = s.tsr.stream.length - s.tsr.cursor - 1 := by
      rw [List.length_drop, Nat.sub_sub]
    have hlt : s.tsr.cursor < s.tsr.stream.length := (List.getElem?_eq_some_iff.mp hb).1
    rw [step_of_truncated hactive hrunning (Tsr.rest_of_getElem? hb) hkind (by omega), hleft]
    rfl

/-- Settles O38: it holds; a terminal status decides all the host reads, and a step in it only ends the call. -/
theorem fatalReturnsOnlyItsDiagnostic : Obligations.FatalReturnsOnlyItsDiagnostic := by
  intro s d hfatal
  have hhost : s.hostSnapshots = [] := by simp [State.hostSnapshots, hfatal]
  refine ⟨by simp [State.traceResult, hfatal], hhost, fun k => ?_, fun hactive => ?_⟩
  · exact resolve_eq_error_iff.mpr ⟨rfl, k, rfl, by simp [hhost]⟩
  · simp [step_trace hactive, tsrStep, hfatal]

/-- A step of a `traceRead` appends at most one snapshot and does not move the cursor back. -/
theorem tsrStep_appends {s t : State} (h : tsrStep s = .next t) :
    s.tsr.snapshots <+: t.tsr.snapshots ∧ t.tsr.snapshots.length ≤ s.tsr.snapshots.length + 1
      ∧ s.tsr.cursor ≤ t.tsr.cursor := by
  rcases tsrStep_cases h with ⟨-, i, rest, u, hdecode, hexec, rfl⟩ | ⟨-, -, rfl⟩ | ⟨-, d, rfl⟩ | ⟨-, rfl⟩
  · obtain ⟨-, hslot, -, -⟩ := decodePacket_wf hdecode
    rcases exec_packet_snapshots hslot hexec with hsame | hadded
    · simp [hsame]
    · simp [hadded]
  all_goals simp

/-- Settles O39: it holds. Only TSR's own step moves TSR, and of the calls only `traceRead` does. -/
theorem snapshotsAreOnlyAppended : Obligations.SnapshotsAreOnlyAppended := by
  intro s t h
  obtain ⟨-, -, hpacket, hnothing, hserved⟩ := oneUnitMovesInAStep s t h
  have hkept : t.tsr = s.tsr → s.tsr.snapshots <+: t.tsr.snapshots
      ∧ t.tsr.snapshots.length ≤ s.tsr.snapshots.length + 1 ∧ s.tsr.cursor ≤ t.tsr.cursor := fun htsr => by simp [htsr]
  cases hactive : s.active with
  | trace => exact .inr (tsrStep_appends (step_trace hactive ▸ h))
  | packet => exact .inr (hkept (congrArg (·.tsr) (hpacket hactive) :))
  | idle =>
    cases hqueue : s.requests with
    | nil => exact .inr (hkept (congrArg (·.tsr) (hnothing hactive hqueue) :))
    | cons q calls =>
      have hframe := hserved q calls hactive hqueue
      cases q with
      | traceRead stream => exact .inl ⟨stream, calls, rfl, rfl⟩
      | _ =>
        dsimp only at hframe
        exact .inr (hkept (congrArg (·.tsr) hframe :))

/-! ### How long a `traceRead` takes (R469) -/

/-- The block's run goes on from the state its first step leaves. -/
theorem run_of_step {s t : State} (h : step s = .next t) (n : Nat) : core.run (n + 1) s = core.run n t :=
  run_succ_of_step core h n

/-- With legal parameters a step of a `traceRead` answers. -/
theorem tsrStep_answers {s : State} (hp : s.params.ok) : ∃ t, tsrStep s = .next t := by
  unfold tsrStep
  split
  · split
    · next i rest hdecode =>
      obtain ⟨-, hslot, -, -⟩ := decodePacket_wf hdecode
      obtain ⟨t, ht⟩ := exec_packet_answers hp hslot
      exact ⟨_, by rw [ht]⟩
    all_goals exact ⟨_, rfl⟩
  · exact ⟨_, rfl⟩

/-- A step of a call in progress ends it, or moves the cursor forward inside the stream and goes on. -/
theorem tsrStep_progress {s t : State} (hactive : s.active = .trace) (h : tsrStep s = .next t) :
    (t.active = .idle ∧ t.tsr.status ≠ .running)
      ∨ (t.active = .trace ∧ s.tsr.cursor < t.tsr.cursor ∧ t.tsr.cursor ≤ s.tsr.stream.length) := by
  rcases tsrStep_cases h with ⟨-, i, rest, u, hdecode, hexec, rfl⟩ | ⟨-, -, rfl⟩ | ⟨-, d, rfl⟩ | ⟨hstopped, rfl⟩
  · obtain ⟨-, hslot, -, -⟩ := decodePacket_wf hdecode
    have hgoes : u.active = .trace := (congrArg State.active (exec_packet_frame hslot hexec)).trans hactive
    exact .inr ⟨hgoes, Tsr.cursor_le hdecode⟩
  · exact .inl ⟨rfl, by simp⟩
  · exact .inl ⟨rfl, by simp⟩
  · exact .inl ⟨rfl, hstopped⟩

/-- A call in progress is over after at most `left + 1` steps, `left` the bytes not read (R469). -/
theorem traceRead_ends {s : State} (hp : s.params.ok) (hactive : s.active = .trace) {left : Nat}
    (hleft : s.tsr.stream.length - s.tsr.cursor ≤ left) :
    ∃ n, ∃ t : State, n ≤ left + 1 ∧ core.run n s = .next t ∧ t.active = .idle ∧ t.tsr.status ≠ .running := by
  induction left generalizing s with
  | zero =>
    obtain ⟨t, ht⟩ := tsrStep_answers hp
    rcases tsrStep_progress hactive ht with ⟨hidle, hstopped⟩ | ⟨-, hforward, hinside⟩
    · exact ⟨1, t, le_rfl, run_of_step ((step_trace hactive).trans ht) 0, hidle, hstopped⟩
    · omega
  | succ left ih =>
    obtain ⟨t, ht⟩ := tsrStep_answers hp
    have hstep := (step_trace hactive).trans ht
    rcases tsrStep_progress hactive ht with ⟨hidle, hstopped⟩ | ⟨hgoes, hforward, hinside⟩
    · exact ⟨1, t, by omega, run_of_step hstep 0, hidle, hstopped⟩
    · have hstream : t.tsr.stream = s.tsr.stream := congrArg (·.tsr.stream) (tsrStep_frame ht)
      obtain ⟨n, u, hn, hrun, hu⟩ := ih (step_params hstep ▸ hp) hgoes (by rw [hstream]; omega)
      exact ⟨n + 1, u, by omega, (run_of_step hstep n).trans hrun, hu⟩

/-! ### The snapshots of a sequence of packets (R463) -/

/-- A further packet adds the snapshot of the packets before it when it is a commit, and none otherwise. -/
theorem snapshotsOf_concat (before : List Instr) (i : Instr) :
    snapshotsOf (before ++ [i]) = snapshotsOf before ++ if i = .pushsnapshot then [snapshotAfter before] else [] := by
  have hbefore : ∀ j ∈ List.range before.length,
      (if (before ++ [i])[j]? = some .pushsnapshot then some (snapshotAfter ((before ++ [i]).take j)) else none)
        = if before[j]? = some .pushsnapshot then some (snapshotAfter (before.take j)) else none := by
    intro j hj
    have hlt : j < before.length := List.mem_range.mp hj
    rw [List.getElem?_append_left hlt, List.take_append_of_le_length hlt.le]
  rw [snapshotsOf, List.length_append, List.length_singleton, List.range_succ, List.filterMap_append,
    List.filterMap_congr hbefore]
  congr 1
  by_cases hi : i = .pushsnapshot <;> simp [hi]

/-- As many snapshots as commits. -/
theorem length_snapshotsOf (packets : List Instr) : (snapshotsOf packets).length = packets.count .pushsnapshot := by
  induction packets using List.reverseRecOn with
  | nil => rfl
  | append_singleton before i ih =>
    rw [snapshotsOf_concat, List.length_append, ih, List.count_append, List.count_singleton]
    by_cases hi : i = .pushsnapshot <;> simp [hi]

/-- Settles O40: it holds, by induction on the bytes not read; the count of the snapshots is by induction from the end. -/
theorem traceReadTerminates : Obligations.TraceReadTerminates := by
  refine ⟨fun s hp hactive _ => traceRead_ends hp hactive le_rfl, fun s t hactive h => ?_, length_snapshotsOf⟩
  rcases tsrStep_progress hactive (step_trace hactive ▸ h) with ⟨hidle, -⟩ | ⟨-, hforward, -⟩
  · exact .inl hidle
  · exact .inr hforward

/-- The snapshot R463 describes moves on with each packet as the accumulator does. -/
theorem snapshotAfter_concat {p : Params} (before : List Instr) {i : Instr} (hslot : i.slot p = .packet) :
    snapshotAfter (before ++ [i]) = (snapshotAfter before).afterPacket i := by
  cases i with
  | pushsnapshot | setregisters | setmemory | setinstructions | loadop | storeop =>
    simp [snapshotAfter, Snapshot.afterPacket, lastRegisters, lastMemory, lastInstructions, lastLoad, lastStore,
      sinceCommit, imageOf]
  | _ => cases hslot

/-- A further commit's update of the history, with the index of its snapshot (R490, R491). -/
theorem onCommit_exhOf {p : Params} (hp : p.ok) (snapshots : List Snapshot) (x : Snapshot) :
    (exhOf p snapshots).onCommit p x snapshots.length = some (exhOf p (snapshots ++ [x])) := by
  obtain ⟨e, he⟩ := Option.isSome_iff_exists.mp (Exh.onCommit_isSome hp (exhOf p snapshots) x snapshots.length)
  have hlast : exhOf p (snapshots ++ [x])
      = ((exhOf p snapshots).onCommit p x snapshots.length).getD (exhOf p snapshots) := by
    simp [exhOf, List.zipIdx_append]
  rw [hlast, he, Option.getD_some]

/-! ### A whole `traceRead` (R450, R463, R466, R467) -/

/-- The state in which a `traceRead` of `stream` has applied the packets `before` and goes on. -/
def State.traceAfter (s : State) (stream : List Byte) (before : List Instr) : State :=
  { s with
    active := .trace
    tsr :=
      { stream := stream
        acc := snapshotAfter before
        cursor := (before.flatMap (encode s.params)).length
        status := .running
        snapshots := snapshotsOf before }
    exh := if s.params.hasExh then exhOf s.params (snapshotsOf before) else Exh.reset }

/-- The bytes not read after the packets `before` are those behind their encodings. -/
theorem rest_traceAfter (s : State) (before : List Instr) (bytes : List Byte) :
    (s.traceAfter (before.flatMap (encode s.params) ++ bytes) before).tsr.rest = bytes := List.drop_left

/-- A `traceRead` that has applied no packet is one that begins (R542). -/
theorem State.traceAfter_nil (s : State) (stream : List Byte) :
    s.traceAfter stream [] = { s with active := .trace, tsr := Tsr.start stream, exh := Exh.reset } := by
  have hexh : (if s.params.hasExh then exhOf s.params (snapshotsOf []) else Exh.reset) = Exh.reset := ite_self _
  rw [State.traceAfter, hexh]
  rfl

/-- Serving the call leaves a `traceRead` that has applied no packet. -/
theorem step_traceRead {s : State} {stream : List Byte} {calls : List Request} (hactive : s.active = .idle)
    (hcall : s.requests = .traceRead stream :: calls) :
    step s = .next (({ s with requests := calls } : State).traceAfter stream []) := by
  rw [step_idle_cons hactive hcall, State.traceAfter_nil]
  rfl

/-- A packet moves the accumulator, the snapshots and EXH on as R463 and R490 say; the cursor is the step's to move. -/
theorem exec_traceAfter {s : State} (hp : s.params.ok) (stream : List Byte) (before : List Instr) {i : Instr}
    (hslot : i.slot s.params = .packet) :
    exec i (s.traceAfter stream before)
      = .next ((s.traceAfter stream (before ++ [i])).setCursor (before.flatMap (encode s.params)).length) := by
  by_cases hcommit : i = .pushsnapshot
  · subst hcommit
    have hexh : if s.params.hasExh
        then (s.traceAfter stream before).exh.onCommit s.params (snapshotAfter before) (snapshotsOf before).length
          = some (s.traceAfter stream (before ++ [.pushsnapshot])).exh
        else (s.traceAfter stream (before ++ [.pushsnapshot])).exh = (s.traceAfter stream before).exh := by
      cases h : s.params.hasExh with
      | true => simpa [State.traceAfter, h, snapshotsOf_concat] using onCommit_exhOf hp _ _
      | false => simp [State.traceAfter, h]
    rw [exec_pushsnapshot hexh]
    simp only [State.traceAfter, snapshotsOf_concat, if_true, snapshotAfter_concat before hslot]
    rfl
  · rw [exec_of_ne_pushsnapshot hslot hcommit]
    simp only [State.traceAfter, snapshotsOf_concat, if_neg hcommit, List.append_nil, snapshotAfter_concat before hslot]
    rfl

/-- A step applies the next well-formed packet of the stream. -/
theorem step_traceAfter {s : State} (hp : s.params.ok) (before : List Instr) {i : Instr}
    (hslot : i.slot s.params = .packet) (hwf : i.wf s.params = true) {stream tail : List Byte}
    (hstream : stream = before.flatMap (encode s.params) ++ (encode s.params i ++ tail)) :
    step (s.traceAfter stream before) = .next (s.traceAfter stream (before ++ [i])) := by
  subst hstream
  have hdecode := hslot ▸ decode_encode i s.params hp hwf tail
  rw [← rest_traceAfter s before (encode s.params i ++ tail)] at hdecode
  rw [traceStepAppliesTheDecodedPacket _ i tail rfl rfl hdecode, exec_traceAfter hp _ before hslot]
  have hcursor : (before.flatMap (encode s.params) ++ (encode s.params i ++ tail)).length - tail.length
      = ((before ++ [i]).flatMap (encode s.params)).length := by
    simp only [List.flatMap_append, List.flatMap_singleton, List.length_append]
    omega
  exact congrArg (fun c => Host.Outcome.next (State.setCursor _ c)) hcursor

/-- A run over well-formed packets applies them all, one a step. -/
theorem run_traceAfter {s : State} (hp : s.params.ok) {packets : List Instr}
    (hpackets : ∀ i ∈ packets, i.slot s.params = .packet ∧ i.wf s.params = true) (before : List Instr)
    {stream tail : List Byte} (hstream : stream = (before ++ packets).flatMap (encode s.params) ++ tail) (n : Nat) :
    core.run (packets.length + n) (s.traceAfter stream before) = core.run n (s.traceAfter stream (before ++ packets)) := by
  induction packets generalizing before with
  | nil => simp
  | cons i packets ih =>
    obtain ⟨⟨hslot, hwf⟩, hrest⟩ := List.forall_mem_cons.mp hpackets
    have hstep := step_traceAfter hp before hslot hwf (tail := packets.flatMap (encode s.params) ++ tail)
      (hstream.trans (by simp))
    calc core.run ((i :: packets).length + n) (s.traceAfter stream before)
        = core.run (packets.length + n + 1) (s.traceAfter stream before) := by rw [List.length_cons, Nat.add_right_comm]
      _ = core.run (packets.length + n) (s.traceAfter stream (before ++ [i])) := run_of_step hstep _
      _ = core.run n (s.traceAfter stream ((before ++ [i]) ++ packets)) := ih hrest _ (by simpa using hstream)
      _ = core.run n (s.traceAfter stream (before ++ i :: packets)) := by rw [List.append_assoc, List.singleton_append]

/-- A call of `traceRead` on well-formed packets and a tail: one step for the call, one for each packet, and then the step
at the tail. -/
theorem run_traceRead {s t : State} (hp : s.params.ok) (hactive : s.active = .idle) {packets : List Instr}
    (hpackets : ∀ i ∈ packets, i.slot s.params = .packet ∧ i.wf s.params = true) {stream tail : List Byte}
    (hstream : stream = packets.flatMap (encode s.params) ++ tail) {calls : List Request}
    (hcall : s.requests = .traceRead stream :: calls)
    (hlast : step (({ s with requests := calls } : State).traceAfter stream packets) = .next t) :
    core.run (packets.length + 2) s = .next t :=
  calc core.run (packets.length + 2) s
      = core.run (packets.length + 1) (({ s with requests := calls } : State).traceAfter stream []) :=
        run_of_step (step_traceRead hactive hcall) _
    _ = core.run 1 (({ s with requests := calls } : State).traceAfter stream packets) :=
        run_traceAfter (s := { s with requests := calls }) hp hpackets [] hstream 1
    _ = .next t := run_of_step hlast 0

/-- Settles O41: it holds. After each packet TSR is in the state R463 describes, and the stream ends after the last. -/
theorem traceReadCommitsTheFreshSnapshots : Obligations.TraceReadCommitsTheFreshSnapshots := by
  intro s packets calls hp hactive hcall hpackets
  rw [← List.append_nil (packets.flatMap _)] at hcall
  have hlast := step_of_endOfStream rfl rfl (rest_traceAfter { s with requests := calls } packets [])
  refine ⟨_, run_traceRead hp hactive hpackets rfl hcall hlast, rfl, rfl, ?_⟩
  cases hexh : s.params.hasExh <;> simp [State.traceResult, State.traceDone, State.traceAfter, hexh]

/-- Settles O42: it holds. The good part is read as in O41, and the step at the tail raises its diagnostic at the cursor. -/
theorem malformedTailIsFatal : Obligations.MalformedTailIsFatal := by
  intro s packets b tail calls hp hactive hcall hpackets
  have hrest := rest_traceAfter { s with requests := calls } packets (b :: tail)
  refine ⟨fun hkind => ?badTag, fun kind hkind hshort => ?truncated⟩
  case badTag => exact ⟨_, run_traceRead hp hactive hpackets rfl hcall (step_of_badTag rfl rfl hrest hkind), rfl, rfl⟩
  case truncated =>
    exact ⟨_, run_traceRead hp hactive hpackets rfl hcall (step_of_truncated rfl rfl hrest hkind hshort), rfl, rfl⟩

end Sys2Proof.Machine

/-! O44, O45, O46, O43, O47 (48_execution_history): what one counted pc adds to each record, the history of a sequence of
pcs, and the history of a list of snapshots as that of the pcs it accepted. -/

namespace Sys2Proof.Machine

/-! ### EXH's invariant, record by record (R43, R503) -/

/-- A record outside the table is never written. -/
theorem Exh.record_of_ge {e : Exh} (hw : e.Wf) {k : Nat} (hk : nRecords ≤ k) : e.record k = Record.reset :=
  Sparse.get_of_ge hw.1 hk

/-- Every record is consistent, and was left by edges at most as often as it was executed (R503). -/
theorem Exh.record_wf {e : Exh} (hw : e.Wf) (k : Nat) :
    (e.record k).Wf ∧ Sparse.total (e.record k).branchTo ≤ (e.record k).timesExecuted := by
  by_cases hk : k < nRecords
  · obtain ⟨-, hrecords, -, -⟩ := hw
    obtain ⟨hrecord, hdepartures⟩ := hrecords k hk
    exact ⟨hrecord, by omega⟩
  · rw [Exh.record_of_ge hw (not_lt.mp hk)]
    decide

/-- Settles O47: it holds, since every history satisfies EXH's invariant. -/
theorem historyIsConsistent : Obligations.HistoryIsConsistent := by
  intro p snapshots k
  obtain ⟨⟨hexecuted, -, -, harrivals⟩, hdepartures⟩ := Exh.record_wf (exhOf_wf p snapshots) k
  exact ⟨hexecuted, Int.sub_nonneg.mpr (Int.ofNat_le.mpr harrivals), Int.sub_nonneg.mpr (Int.ofNat_le.mpr hdepartures)⟩

/-! ### What one counted pc adds (R492, R495) -/

/-- Whether a pair is an edge that leaves record `a`. -/
def edgeOutOf (a : Nat) (x y : Word) : Bool := decide (recordIndex x = a) && decide (isEdge x y)

/-- Whether a pair is an edge that enters record `a`. -/
def edgeInto (a : Nat) (x y : Word) : Bool := decide (recordIndex y = a) && decide (isEdge x y)

theorem edgesTo_eq (a q : Nat) (pcs : List Word) :
    edgesTo a q pcs = countAdjacent (fun x y => edgeOutOf a x y && decide (y.toNat = q)) pcs := by
  simp only [edgesTo, edgeOutOf, Bool.and_right_comm]

theorem edgesFrom_eq (a q : Nat) (pcs : List Word) :
    edgesFrom a q pcs = countAdjacent (fun x y => edgeInto a x y && decide (x.toNat = q)) pcs := by
  simp only [edgesFrom, edgeInto, Bool.and_right_comm]

/-- 1 when there is a previous pc and the pair it makes with `pc` passes the test, else 0. -/
def pairCount (test : Word → Word → Bool) (prev : Option Word) (pc : Word) : Nat :=
  match prev with
  | some p => if test p pc then 1 else 0
  | none => 0

/-- One more pc makes one more adjacent pair, with the last pc before it. -/
theorem countAdjacent_concat (test : Word → Word → Bool) (pcs : List Word) (pc : Word) :
    countAdjacent test (pcs ++ [pc]) = countAdjacent test pcs + pairCount test pcs.getLast? pc := by
  induction pcs with
  | nil => rfl
  | cons p rest ih =>
    cases rest with
    | nil => simp [countAdjacent, pairCount]
    | cons q rest =>
      simp only [List.cons_append, countAdjacent, List.getLast?_cons_cons] at ih ⊢
      rw [ih, Nat.add_assoc]

section CountPc

variable {e : Exh} (hw : e.Wf) {pc : Word} (hpc : pc.toNat < progBytes)
include hw hpc

theorem Exh.executed_countPc (k : Nat) :
    ((e.countPc pc).record k).executed = ((e.record k).executed || decide (k = recordIndex pc)) := by
  obtain ⟨hrecords, -, -, hprev⟩ := hw
  rw [Exh.record_countPc hrecords hpc hprev]
  by_cases hk : k = recordIndex pc <;> simp [hk]

theorem Exh.timesExecuted_countPc (k : Nat) :
    ((e.countPc pc).record k).timesExecuted = (e.record k).timesExecuted + if k = recordIndex pc then 1 else 0 := by
  obtain ⟨hrecords, -, -, hprev⟩ := hw
  rw [Exh.record_countPc hrecords hpc hprev]

/-- The first pc makes no edge (R496). -/
theorem Exh.branches_countPc_first (hp : e.prevPc = none) (k : Nat) :
    ((e.countPc pc).record k).branchTo = (e.record k).branchTo
      ∧ ((e.countPc pc).record k).branchFrom = (e.record k).branchFrom := by
  obtain ⟨hrecords, -, -, hprev⟩ := hw
  rw [Exh.record_countPc hrecords hpc hprev]
  simp [Exh.edgeSource, hp]

/-- After a previous pc `p` the pair is counted at both ends when it is an edge (R495). -/
theorem Exh.branches_countPc {p : Word} (hp : e.prevPc = some p) (k : Nat) :
    ((e.countPc pc).record k).branchTo
        = (if edgeOutOf k p pc then increment pc (e.record k).branchTo else (e.record k).branchTo)
      ∧ ((e.countPc pc).record k).branchFrom
        = (if edgeInto k p pc then increment p (e.record k).branchFrom else (e.record k).branchFrom) := by
  obtain ⟨hrecords, -, -, hprev⟩ := hw
  have hsource : e.edgeSource pc = if isEdge p pc then some p else none := by simp [Exh.edgeSource, hp, Option.filter]
  rw [Exh.record_countPc hrecords hpc hprev, hsource]
  by_cases hedge : isEdge p pc <;> simp [edgeOutOf, edgeInto, hedge, eq_comm (a := k)]

/-- Counting a pc adds its edge to the `branchTo` counts of the previous pc's record. -/
theorem Exh.branchTo_countPc (k : Nat) :
    (∀ q, Sparse.get 0 ((e.countPc pc).record k).branchTo q = Sparse.get 0 (e.record k).branchTo q
        + pairCount (fun x y => edgeOutOf k x y && decide (y.toNat = q)) e.prevPc pc)
      ∧ Sparse.total ((e.countPc pc).record k).branchTo
        = Sparse.total (e.record k).branchTo + pairCount (edgeOutOf k) e.prevPc pc := by
  obtain ⟨⟨-, hto, -, -⟩, -⟩ := Exh.record_wf hw k
  cases hp : e.prevPc with
  | none => simp [(Exh.branches_countPc_first hw hpc hp k).1, pairCount]
  | some p =>
    rw [(Exh.branches_countPc hw hpc hp k).1]
    cases hedge : edgeOutOf k p pc
    · simp [pairCount, hedge]
    · simp [pairCount, hedge, get_increment hto, total_increment hto, eq_comm]

/-- Counting a pc adds its edge to the `branchFrom` counts of its own record. -/
theorem Exh.branchFrom_countPc (k : Nat) :
    (∀ q, Sparse.get 0 ((e.countPc pc).record k).branchFrom q = Sparse.get 0 (e.record k).branchFrom q
        + pairCount (fun x y => edgeInto k x y && decide (x.toNat = q)) e.prevPc pc)
      ∧ Sparse.total ((e.countPc pc).record k).branchFrom
        = Sparse.total (e.record k).branchFrom + pairCount (edgeInto k) e.prevPc pc := by
  obtain ⟨⟨-, -, hfrom, -⟩, -⟩ := Exh.record_wf hw k
  cases hp : e.prevPc with
  | none => simp [(Exh.branches_countPc_first hw hpc hp k).2, pairCount]
  | some p =>
    rw [(Exh.branches_countPc hw hpc hp k).2]
    cases hedge : edgeInto k p pc
    · simp [pairCount, hedge]
    · simp [pairCount, hedge, get_increment hfrom, total_increment hfrom, eq_comm]

end CountPc

/-! ### All records together (R502) -/

/-- A sum over what a canonical map lists is one over the keys it may hold, for any measure that gives the default 0. -/
theorem Sparse.sum_eq_sum_range {α : Type} [DecidableEq α] {d : α} {lo hi : Nat} {m : Sparse α} (f : α → Nat)
    (hf : f d = 0) (hm : Sparse.wf d lo hi m = true) :
    (m.map fun kv => f kv.2).sum = ∑ key ∈ Finset.range hi, f (Sparse.get d m key) := by
  induction m generalizing lo with
  | nil => simp [hf]
  | cons kv rest ih =>
    obtain ⟨k, v⟩ := kv
    obtain ⟨-, hk, -, hrest⟩ := Sparse.wf_cons.mp hm
    have hsplit : ∀ key, f (Sparse.get d ((k, v) :: rest) key)
        = (if key = k then f v else 0) + f (Sparse.get d rest key) := by
      intro key
      by_cases hkey : key = k
      · simp [Sparse.get, hkey, Sparse.get_of_lt hrest (Nat.lt_succ_self k), hf]
      · simp [Sparse.get, hkey]
    simp [hsplit, Finset.sum_add_distrib, hk, ih hrest]

theorem Exh.edgesOut_eq_sum {e : Exh} (hw : e.Wf) :
    e.edgesOut = ∑ k ∈ Finset.range nRecords, Sparse.total (e.record k).branchTo :=
  Sparse.sum_eq_sum_range (d := Record.reset) (fun r : Record => Sparse.total r.branchTo) rfl hw.1

/-- The edge of a counted pc leaves exactly one record of the table. -/
theorem sum_pairCount_edgeOutOf {prev : Option Word} (hprev : ∀ p ∈ prev, p.toNat < progBytes) (pc : Word) :
    ∑ k ∈ Finset.range nRecords, pairCount (edgeOutOf k) prev pc = pairCount (fun x y => decide (isEdge x y)) prev pc := by
  cases prev with
  | none => simp [pairCount]
  | some p =>
    have hindex : recordIndex p < nRecords := recordIndex_lt (hprev p rfl)
    by_cases hedge : isEdge p pc <;> simp [pairCount, edgeOutOf, hedge, hindex]

/-- Counting a pc adds one to the edges of the whole table exactly when it makes an edge (R495, R502). -/
theorem Exh.edgesOut_countPc {e : Exh} (hw : e.Wf) {pc : Word} (hpc : pc.toNat < progBytes) :
    (e.countPc pc).edgesOut = e.edgesOut + pairCount (fun x y => decide (isEdge x y)) e.prevPc pc := by
  have ⟨_, _, _, hprev⟩ := hw
  simp only [Exh.edgesOut_eq_sum hw, Exh.edgesOut_eq_sum (Exh.countPc_wf hw hpc), (Exh.branchTo_countPc hw hpc _).2,
    Finset.sum_add_distrib, sum_pairCount_edgeOutOf hprev]

/-! ### The history of a sequence of pcs -/

/-- EXH after counting a sequence of pcs from reset. -/
def historyOf (pcs : List Word) : Exh := pcs.foldl Exh.countPc Exh.reset

theorem historyOf_concat (pcs : List Word) (pc : Word) : historyOf (pcs ++ [pc]) = (historyOf pcs).countPc pc := by
  simp [historyOf]

theorem historyOf_prevPc (pcs : List Word) : (historyOf pcs).prevPc = pcs.getLast? := by
  induction pcs using List.reverseRecOn with
  | nil => rfl
  | append_singleton pcs pc _ => simp [historyOf_concat]

theorem historyOf_wf {pcs : List Word} (hpcs : ∀ pc ∈ pcs, pc.toNat < progBytes) : (historyOf pcs).Wf := by
  induction pcs using List.reverseRecOn with
  | nil => exact Exh.reset_wf
  | append_singleton pcs pc ih =>
    rw [List.forall_mem_append, List.forall_mem_singleton] at hpcs
    rw [historyOf_concat]
    exact Exh.countPc_wf (ih hpcs.1) hpcs.2

/-- Every count of the history of a sequence of pcs, and every sum of them, is the number of pcs or of pairs it stands for
(R492, R495, R497). -/
theorem historyOf_counts {pcs : List Word} (hpcs : ∀ pc ∈ pcs, pc.toNat < progBytes) (a : Nat) :
    ((historyOf pcs).record a).timesExecuted = visits a pcs
      ∧ (∀ q, Sparse.get 0 ((historyOf pcs).record a).branchTo q = edgesTo a q pcs)
      ∧ (∀ q, Sparse.get 0 ((historyOf pcs).record a).branchFrom q = edgesFrom a q pcs)
      ∧ Sparse.total ((historyOf pcs).record a).branchTo = countAdjacent (edgeOutOf a) pcs
      ∧ Sparse.total ((historyOf pcs).record a).branchFrom = countAdjacent (edgeInto a) pcs
      ∧ (historyOf pcs).edgesOut = countAdjacent (fun x y => decide (isEdge x y)) pcs := by
  simp only [edgesTo_eq, edgesFrom_eq]
  induction pcs using List.reverseRecOn with
  | nil => exact ⟨rfl, fun _ => rfl, fun _ => rfl, rfl, rfl, rfl⟩
  | append_singleton pcs pc ih =>
    rw [List.forall_mem_append, List.forall_mem_singleton] at hpcs
    obtain ⟨hbefore, hpc⟩ := hpcs
    have hw := historyOf_wf hbefore
    obtain ⟨htimes, hto, hfrom, hout, hin, hedges⟩ := ih hbefore
    obtain ⟨hto', hout'⟩ := Exh.branchTo_countPc hw hpc a
    obtain ⟨hfrom', hin'⟩ := Exh.branchFrom_countPc hw hpc a
    simp only [historyOf_concat, countAdjacent_concat, Exh.timesExecuted_countPc hw hpc, Exh.edgesOut_countPc hw hpc,
      hto', hfrom', hout', hin', htimes, hto, hfrom, hout, hin, hedges, historyOf_prevPc, implies_true, and_true]
    by_cases ha : recordIndex pc = a <;> simp [visits, ha, eq_comm (a := a)]

/-! ### The history of a list of snapshots is that of the pcs it accepted (R498 to R500) -/

theorem acceptedPcs_lt (p : Params) (snapshots : List Snapshot) : ∀ pc ∈ acceptedPcs p snapshots, pc.toNat < progBytes := by
  induction snapshots with
  | nil => simp [acceptedPcs]
  | cons x rest ih =>
    unfold acceptedPcs
    split
    · next pc _ =>
      split
      · next hpc => exact List.forall_mem_cons.mpr ⟨hpc, ih⟩
      · simp
    · simp

/-- A fault mark stays: later commits change nothing (R500). -/
theorem Exh.onCommit_of_fault (p : Params) {e : Exh} (hfault : e.fault ≠ none) (x : Snapshot) (index : Nat) :
    e.onCommit p x index = some e := if_pos (Option.isSome_iff_ne_none.mpr hfault)

/-- With legal parameters a snapshot has no pc only when it has no registers, and then EXH marks it (R498). -/
theorem Exh.onCommit_of_pc_eq_none {p : Params} (hp : p.ok) {e : Exh} (hfault : e.fault = none) {x : Snapshot}
    (hpc : x.pc p = none) (index : Nat) : e.onCommit p x index = some (e.raise (.pcUnavailable index)) := by
  obtain ⟨pc, hbytes⟩ := Option.isSome_iff_exists.mp (Snapshot.pcBytes_isSome hp x)
  have hvalid : x.regsValid = false := by simpa [Snapshot.pc, hbytes] using hpc
  simp [Exh.onCommit, hfault, hvalid]

/-- Without a fault mark a snapshot's pc is committed (R492). -/
theorem Exh.onCommit_of_pc_eq_some {p : Params} {e : Exh} (hfault : e.fault = none) {x : Snapshot} {pc : Word}
    (hpc : x.pc p = some pc) (index : Nat) : e.onCommit p x index = some (e.commitPc pc index) := by
  obtain ⟨hvalid, hbytes⟩ : x.regsValid = true ∧ x.pcBytes p = some pc := by simpa [Snapshot.pc] using hpc
  simp [Exh.onCommit, hfault, hvalid, hbytes]

/-- Once there is a fault mark no list of commits changes EXH (R500). -/
theorem commits_of_fault (p : Params) {e : Exh} (hfault : e.fault ≠ none) (commits : List (Snapshot × Nat)) :
    commits.foldl (fun e xi => (e.onCommit p xi.1 xi.2).getD e) e = e := by
  induction commits with
  | nil => rfl
  | cons xi rest ih => rw [List.foldl_cons, Exh.onCommit_of_fault p hfault, Option.getD_some, ih]

/-- Commits count the pcs they accept, and beyond that set the fault mark alone. -/
theorem commits_eq {p : Params} (hp : p.ok) (commits : List (Snapshot × Nat)) {e : Exh} (hfault : e.fault = none) :
    ∃ mark, commits.foldl (fun e xi => (e.onCommit p xi.1 xi.2).getD e) e
      = { (acceptedPcs p (commits.map Prod.fst)).foldl Exh.countPc e with fault := mark } := by
  induction commits generalizing e with
  | nil => exact ⟨e.fault, rfl⟩
  | cons xi rest ih =>
    rw [List.foldl_cons, List.map_cons, acceptedPcs]
    cases hpc : xi.1.pc p with
    | none =>
      rw [Exh.onCommit_of_pc_eq_none hp hfault hpc, Option.getD_some, commits_of_fault p (by simp)]
      exact ⟨_, rfl⟩
    | some pc =>
      rw [Exh.onCommit_of_pc_eq_some hfault hpc, Option.getD_some, Exh.commitPc]
      by_cases hin : pc.toNat < progBytes
      · simp only [if_pos hin, if_neg (not_le.mpr hin)]
        exact ih ((Exh.countPc_fault e pc).trans hfault)
      · simp only [if_neg hin, if_pos (not_lt.mp hin)]
        rw [commits_of_fault p (by simp)]
        exact ⟨_, rfl⟩

theorem exhOf_eq {p : Params} (hp : p.ok) (snapshots : List Snapshot) :
    ∃ mark, exhOf p snapshots = { historyOf (acceptedPcs p snapshots) with fault := mark } := by
  have h := commits_eq hp snapshots.zipIdx (e := Exh.reset) rfl
  rw [List.zipIdx_map_fst] at h
  exact h

theorem record_exhOf {p : Params} (hp : p.ok) (snapshots : List Snapshot) (a : Nat) :
    (exhOf p snapshots).record a = (historyOf (acceptedPcs p snapshots)).record a := by
  obtain ⟨mark, heq⟩ := exhOf_eq hp snapshots
  rw [heq]
  rfl

/-- Settles O44: it holds. The history is that of the accepted pcs, whose counts are by induction from the end. -/
theorem historyCountsEveryAcceptedCommit : Obligations.HistoryCountsEveryAcceptedCommit := by
  intro p snapshots hp
  dsimp only
  have hw := exhOf_wf p snapshots
  obtain ⟨mark, heq⟩ := exhOf_eq hp snapshots
  have hprev : (exhOf p snapshots).prevPc = (acceptedPcs p snapshots).getLast? := by
    rw [heq]
    exact historyOf_prevPc _
  have hcounts := historyOf_counts (acceptedPcs_lt p snapshots)
  have hedges : (exhOf p snapshots).edgesOut = countAdjacent (fun x y => decide (isEdge x y)) (acceptedPcs p snapshots) := by
    obtain ⟨-, -, -, -, -, hedges⟩ := hcounts 0
    rw [heq]
    exact hedges
  refine ⟨hprev, fun a q => ?_, hedges, ?_⟩
  · obtain ⟨htimes, hto, hfrom, -, -, -⟩ := hcounts a
    obtain ⟨⟨hexecuted, -, -, -⟩, -⟩ := Exh.record_wf hw a
    rw [record_exhOf hp] at hexecuted ⊢
    rw [htimes] at hexecuted
    exact ⟨htimes, Bool.eq_iff_iff.mpr (by simpa using hexecuted), hto q, hfrom q⟩
  · obtain ⟨-, -, hbalance, -⟩ := hw
    exact hbalance ▸ hedges

/-! ### Arrivals and departures (R501) -/

theorem visits_cons (a : Nat) (x : Word) (pcs : List Word) :
    visits a (x :: pcs) = (if recordIndex x = a then 1 else 0) + visits a pcs := by
  by_cases ha : recordIndex x = a <;> simp [visits, ha, Nat.add_comm]

/-- A pair into record `a` is an edge or a fall-through, and not both (R495, R501). -/
theorem edge_or_fallIn (a : Nat) (x y : Word) :
    (if edgeInto a x y then 1 else 0)
        + (if decide (recordIndex y = a) && decide (x.toNat + pairBytes = y.toNat) then 1 else 0)
      = if recordIndex y = a then 1 else 0 := by
  by_cases ha : recordIndex y = a <;> by_cases hseq : x.toNat + pairBytes = y.toNat <;> simp [edgeInto, isEdge, ha, hseq]

/-- A pair out of record `a` is an edge or a fall-through, and not both (R495, R501). -/
theorem edge_or_fallOut (a : Nat) (x y : Word) :
    (if edgeOutOf a x y then 1 else 0)
        + (if decide (recordIndex x = a) && decide (x.toNat + pairBytes = y.toNat) then 1 else 0)
      = if recordIndex x = a then 1 else 0 := by
  by_cases ha : recordIndex x = a <;> by_cases hseq : x.toNat + pairBytes = y.toNat <;> simp [edgeOutOf, isEdge, ha, hseq]

/-- Every visit is the first pc, an arrival by an edge, or an arrival by fall-through. -/
theorem visits_eq_arrivals (a : Nat) (pcs : List Word) :
    visits a pcs = countAdjacent (edgeInto a) pcs + arrivals a pcs + inRecord a pcs.head? := by
  induction pcs with
  | nil => rfl
  | cons x rest ih =>
    cases rest with
    | nil => by_cases ha : recordIndex x = a <;> simp [visits, arrivals, countAdjacent, inRecord, ha]
    | cons y rest =>
      have hpair := edge_or_fallIn a x y
      simp only [visits_cons a x, ih, arrivals, countAdjacent, inRecord, List.head?_cons, Option.map_some,
        Option.some.injEq] at hpair ⊢
      omega

/-- Every visit is the last pc, a departure by an edge, or a departure by fall-through. -/
theorem visits_eq_departures (a : Nat) (pcs : List Word) :
    visits a pcs = countAdjacent (edgeOutOf a) pcs + departures a pcs + inRecord a pcs.getLast? := by
  induction pcs with
  | nil => rfl
  | cons x rest ih =>
    cases rest with
    | nil => by_cases ha : recordIndex x = a <;> simp [visits, departures, countAdjacent, inRecord, ha]
    | cons y rest =>
      have hpair := edge_or_fallOut a x y
      simp only [visits_cons a x, ih, departures, countAdjacent, List.getLast?_cons_cons] at hpair ⊢
      omega

/-- Settles O45: it holds, since each visit but the first arrives, and each but the last departs, by an edge or by
fall-through. -/
theorem edgeAccounting : Obligations.EdgeAccounting := by
  intro p snapshots a hp
  obtain ⟨htimes, -, -, hout, hin, -⟩ := historyOf_counts (acceptedPcs_lt p snapshots) a
  dsimp only
  rw [record_exhOf hp, htimes, hout, hin]
  exact ⟨visits_eq_arrivals a _, visits_eq_departures a _⟩

/-! ### One commit -/

/-- The test for an edge at a record and under a key, in the order R495 gives its parts. -/
theorem edgeTest_eq {edge : Prop} [Decidable edge] (index k value q : Nat) :
    (decide (index = k) && decide edge && decide (value = q)) = decide (edge ∧ k = index ∧ q = value) := by
  rw [← Bool.decide_and, ← Bool.decide_and, decide_eq_decide]
  constructor
  · rintro ⟨⟨rfl, hedge⟩, rfl⟩
    exact ⟨hedge, rfl, rfl⟩
  · rintro ⟨hedge, rfl, rfl⟩
    exact ⟨⟨rfl, hedge⟩, rfl⟩

/-- The edges that leave record `k` for the pc `q`, in numbers (R493, R495). -/
theorem edgeOutOf_and (k q : Nat) (x y : Word) :
    (edgeOutOf k x y && decide (y.toNat = q)) = decide (x.toNat + 8 ≠ y.toNat ∧ k = x.toNat / 8 ∧ q = y.toNat) :=
  edgeTest_eq _ _ _ _

/-- The edges that enter record `k` from the pc `q`, in numbers (R493, R495). -/
theorem edgeInto_and (k q : Nat) (x y : Word) :
    (edgeInto k x y && decide (x.toNat = q)) = decide (x.toNat + 8 ≠ y.toNat ∧ k = y.toNat / 8 ∧ q = x.toNat) :=
  edgeTest_eq _ _ _ _

/-- Settles O43: it holds, by what a commit answers in each case and what one counted pc adds. -/
theorem commitUpdatesTheHistory : Obligations.CommitUpdatesTheHistory := by
  intro p e x index hp hw
  obtain ⟨e', he'⟩ := Option.isSome_iff_exists.mp (Exh.onCommit_isSome hp e x index)
  refine ⟨e', he', fun hfault => ?fault, fun hfault hpc => ?noPc, fun pc hfault hpc hout => ?outOfRange,
    fun pc hfault hpc hin => ?counted⟩
  case fault => simpa [Exh.onCommit_of_fault p hfault, eq_comm] using he'
  case noPc => exact (Option.some.inj ((Exh.onCommit_of_pc_eq_none hp hfault hpc index).symm.trans he')).symm
  case outOfRange =>
    rw [Exh.onCommit_of_pc_eq_some hfault hpc, Exh.commitPc, if_pos hout] at he'
    exact (Option.some.inj he').symm
  case counted =>
    rw [Exh.onCommit_of_pc_eq_some hfault hpc, Exh.commitPc, if_neg (not_le.mpr hin)] at he'
    obtain rfl := Option.some.inj he'
    refine ⟨(e.countPc_fault pc).trans hfault, rfl, fun k q => ⟨?_, ?_, ?_, ?_⟩⟩
    · exact Exh.executed_countPc hw hin k
    · exact Exh.timesExecuted_countPc hw hin k
    · rw [(Exh.branchTo_countPc hw hin k).1 q]
      cases e.prevPc <;> simp only [pairCount, edgeOutOf_and, decide_eq_true_eq]
    · rw [(Exh.branchFrom_countPc hw hin k).1 q]
      cases e.prevPc <;> simp only [pairCount, edgeInto_and, decide_eq_true_eq]

/-! ### EXH's only input (R490, R491) -/

/-- A commit that EXH answers moves the history on by its snapshot. -/
theorem eq_exhOf_concat {p : Params} {snapshots : List Snapshot} {x : Snapshot} {e : Exh}
    (h : (exhOf p snapshots).onCommit p x snapshots.length = some e) : e = exhOf p (snapshots ++ [x]) := by
  have hlast : exhOf p (snapshots ++ [x])
      = ((exhOf p snapshots).onCommit p x snapshots.length).getD (exhOf p snapshots) := by
    simp [exhOf, List.zipIdx_append]
  rw [hlast, h, Option.getD_some]

/-- EXH, where it is present, holds the history of the committed snapshots. -/
def State.HistoryHolds (s : State) : Prop := s.params.hasExh = true → s.exh = exhOf s.params s.tsr.snapshots

/-- What keeps the parameters, EXH and the snapshots keeps the history. -/
theorem State.HistoryHolds.of_eq {s t : State} (hs : s.HistoryHolds) (hparams : t.params = s.params)
    (hexh : t.exh = s.exh) (hsnapshots : t.tsr.snapshots = s.tsr.snapshots) : t.HistoryHolds := by
  unfold State.HistoryHolds
  rw [hparams, hexh, hsnapshots]
  exact hs

/-- Of the packets only a commit moves EXH or the snapshots, and it moves both together (R455, R491). -/
theorem exec_packet_historyHolds {p : Params} {i : Instr} (hslot : i.slot p = .packet) {s t : State}
    (hs : s.HistoryHolds) (h : exec i s = .next t) : t.HistoryHolds := by
  rcases exec_packet hslot h with ⟨-, e, rfl, he⟩ | ⟨_, -, rfl⟩ | ⟨_, -, rfl⟩ | ⟨_, -, rfl⟩ | ⟨_, _, -, rfl⟩ |
    ⟨_, _, -, rfl⟩
  · intro (hexh : s.params.hasExh = true)
    rw [if_pos hexh, hs hexh] at he
    exact eq_exhOf_concat he
  all_goals exact hs.of_eq rfl rfl rfl

theorem tsrStep_historyHolds {s t : State} (hs : s.HistoryHolds) (h : tsrStep s = .next t) : t.HistoryHolds := by
  rcases tsrStep_cases h with ⟨-, i, rest, u, hdecode, hexec, rfl⟩ | ⟨-, -, rfl⟩ | ⟨-, d, rfl⟩ | ⟨-, rfl⟩
  · obtain ⟨-, hslot, -, -⟩ := decodePacket_wf hdecode
    exact (exec_packet_historyHolds hslot hs hexec).of_eq rfl rfl rfl
  all_goals exact hs.of_eq rfl rfl rfl

/-- Of the calls only `traceRead` touches EXH or TSR, and it begins with no snapshot and no history (R542). -/
theorem serve_historyHolds {s t : State} (hs : s.HistoryHolds) {q : Request} (h : serve s q = .next t) :
    t.HistoryHolds := by
  rcases serve_cases h with ⟨_, rfl⟩ | ⟨_, rfl⟩ | ⟨_, _, _, -, -, rfl⟩ | ⟨stream, rfl⟩
  · exact hs.of_eq rfl rfl rfl
  · exact hs.of_eq rfl rfl rfl
  · exact hs.of_eq rfl rfl rfl
  · exact fun _ => rfl

/-- Settles O46: it holds, unit by unit. -/
theorem historyIsThatOfTheSnapshots : Obligations.HistoryIsThatOfTheSnapshots := by
  intro s t (hs : s.HistoryHolds) h
  show t.HistoryHolds
  rcases step_cases h with ⟨-, h⟩ | ⟨-, h⟩ | ⟨-, -, rfl⟩ | ⟨-, q, calls, -, h⟩
  · exact tsrStep_historyHolds hs h
  · rw [gpdStep_frame h]
    exact hs.of_eq rfl rfl rfl
  · exact hs
  · have hdequeued : State.HistoryHolds { s with requests := calls } := hs
    exact serve_historyHolds hdequeued h

end Sys2Proof.Machine

/-! O58 (60_exceptions R510, R516): from the invariant the sequential units always answer, and a port call answers or is
refused in any state. -/

namespace Sys2Proof.Machine

theorem noFault_next (t : State) : NoFault (.next t) := fun _ => nofun

theorem noFault_refused (r : Refusal) : NoFault (.refused r) := fun _ => nofun

/-- An outcome that answers is no fault. -/
theorem NoFault.of_answers {o : Host.Outcome State Fault Refusal} (h : ∃ t, o = .next t) : NoFault o := by
  obtain ⟨t, rfl⟩ := h
  exact noFault_next t

/-! ### The port calls (R513) -/

/-- `extract` answers, or is refused for its bounds (R143). -/
theorem extractCall_noFault (v : DWord) (lo hi : Nat) (s : State) : NoFault (extractCall v lo hi s) := by
  unfold extractCall
  split
  · exact noFault_next _
  · exact noFault_refused _

/-- A pair read outside the image is a refused call, not a fault: `decodePairAt` tests its address first (R173). -/
theorem decodePairAtCall_noFault (ref : SnapshotRef) (a : Word) (s : State) : NoFault (decodePairAtCall ref a s) := by
  unfold decodePairAtCall
  split
  · exact noFault_refused _
  · split
    · exact noFault_refused _
    · split
      · exact noFault_refused _
      · split
        · obtain ⟨port, h⟩ := decodePairCall_eq _ _ a s
          exact .of_answers ⟨_, h⟩
        · exact noFault_refused _

/-- `gsDecode` begins, or is refused (R401, R511). -/
theorem gsDecodeCall_noFault (ref : SnapshotRef) (off n : Nat) (s : State) : NoFault (gsDecodeCall ref off n s) := by
  unfold gsDecodeCall
  split
  · exact noFault_refused _
  · split
    · exact noFault_refused _
    · split
      · exact noFault_refused _
      · split
        · exact noFault_next _
        · exact noFault_refused _

/-- Serving a call is never a fault, whatever the state: words and pairs always decode, the other ports answer or refuse. -/
theorem serve_noFault (s : State) (q : Request) : NoFault (serve s q) := by
  cases q with
  | extract v lo hi => exact extractCall_noFault v lo hi s
  | decodeLower w a =>
    obtain ⟨port, h⟩ := decodeLowerCall_eq w a s
    exact .of_answers ⟨_, h⟩
  | decodeUpper w a =>
    obtain ⟨port, h⟩ := decodeUpperCall_eq w a s
    exact .of_answers ⟨_, h⟩
  | decodePair l u a =>
    obtain ⟨port, h⟩ := decodePairCall_eq l u a s
    exact .of_answers ⟨_, h⟩
  | decodePairAt ref a => exact decodePairAtCall_noFault ref a s
  | gsDecode ref off n => exact gsDecodeCall_noFault ref off n s
  | traceRead stream => exact noFault_next _

/-- Settles O58: it holds. A `traceRead` needs legal parameters for the pc's bytes, a `gsDecode` GPD's invariant for its
beats and its open primitive; without a call in progress nothing is asked of the state. -/
theorem reachableStatesNeverFault : Obligations.ReachableStatesNeverFault := by
  intro s hw
  obtain ⟨hparams, -, -, hgpd⟩ := hw
  cases hactive : s.active with
  | trace => exact step_trace hactive ▸ .of_answers (tsrStep_answers hparams)
  | packet => exact step_packet hactive ▸ .of_answers (gpdStep_answers hgpd)
  | idle =>
    cases hcalls : s.requests with
    | nil => exact step_idle_nil hactive hcalls ▸ noFault_next s
    | cons q calls => exact step_idle_cons hactive hcalls ▸ serve_noFault _ q

end Sys2Proof.Machine

/-! O36, O57 (70_reset_and_hazards R541 to R544): the state each unit begins in. -/

namespace Sys2Proof.Machine

/-- No record is listed after reset, so each reads as `Record.reset` (R542). -/
theorem Exh.record_reset (k : Nat) : Exh.reset.record k = Record.reset := rfl

/-- TSR and EXH at the start of a `traceRead` hold the values of R542, whatever the stream. -/
theorem traceRead_start_values (stream : List Byte) :
    (Tsr.start stream).acc.regsValid = false ∧ (Tsr.start stream).acc.dmemValid = false
      ∧ (Tsr.start stream).acc.imemValid = false ∧ (Tsr.start stream).acc.pendingLoad = none
      ∧ (Tsr.start stream).acc.pendingStore = none ∧ (Tsr.start stream).cursor = 0
      ∧ (Tsr.start stream).status = .running ∧ (Tsr.start stream).snapshots = []
      ∧ (∀ k, Exh.reset.record k = { executed := false, timesExecuted := 0, branchTo := [], branchFrom := [] })
      ∧ Exh.reset.prevPc = none ∧ Exh.reset.fault = none :=
  ⟨rfl, rfl, rfl, rfl, rfl, rfl, rfl, rfl, Exh.record_reset, rfl, rfl⟩

/-- Settles O36: it holds. Serving the call puts TSR and EXH in their start states. -/
theorem traceReadCallResetsTsrAndExh : Obligations.TraceReadCallResetsTsrAndExh := by
  intro s stream calls hactive hcall
  have hstep := step_traceRead hactive hcall
  rw [State.traceAfter_nil] at hstep
  exact ⟨_, hstep, rfl, rfl, traceRead_start_values stream⟩

/-- The block after reset satisfies its invariant: the suggested parameters are legal (R6), and each sequential unit is at
the start of an empty call (R541, R542). -/
theorem State.reset_wf : State.reset.Wf :=
  have hparams : Params.suggested.ok := by decide
  ⟨hparams, Tsr.start_wf _ [], Exh.reset_wf, Gpd.start_wf rfl (Nat.zero_le dataBytes)⟩

/-- Settles O57: it holds. GPD's values are those of `Gpd.start` (R541), TSR's and EXH's those a `traceRead` begins with. -/
theorem resetSatisfiesTheInvariant : Obligations.ResetSatisfiesTheInvariant :=
  ⟨State.reset_wf, rfl, rfl, rfl, rfl, traceRead_start_values []⟩

end Sys2Proof.Machine

/-! O17 to O21, O23 to O25 (43_vu_upper_acc R248 to R294; 44_vu_lower_main R300 to R317, R320, R321, R328 to R332;
45_vu_lower_special R333 to R368): the rows of the other tables. A line has one of four forms, by whether its row prints a component mask and whether it has operands. -/

namespace Sys2Proof.Machine

/-! ### The further forms of a line (R163, R167) -/

/-- A lower row with a component mask shows its mnemonic, the mask's suffix and its operands, and changes the lower result
wire alone. -/
theorem State.putLower_some_cons (s : State) (row : String) (dest : BitVec 4) (op : Operand) (ops : List Operand) :
    s.putLower row (some dest) (op :: ops)
      = s.shownLower row (row ++ destSuffix dest ++ (" " ++ joinComma ((op :: ops).map render))) := rfl

/-- A row with neither a component mask nor operands has its mnemonic as its whole line. -/
theorem lineText_none_nil (row : String) : lineText row none [] = row := by
  simp only [lineText, String.append_empty]

/-- An upper row with neither a component mask nor operands shows its mnemonic alone. -/
theorem State.putUpper_none_nil (s : State) (row : String) : s.putUpper row none [] = s.shownUpper row row := by
  rw [State.putUpper, lineText_none_nil]
  rfl

/-- A lower row with neither a component mask nor operands shows its mnemonic alone. -/
theorem State.putLower_none_nil (s : State) (row : String) : s.putLower row none [] = s.shownLower row row := by
  rw [State.putLower, lineText_none_nil]
  rfl

/-! ### The upper rows of the FD tables -/

/-- Settles O17: it holds, row by row; the accumulator is an operand of its own, in the place of a destination register. -/
theorem accBroadcastRowsFormat : Obligations.AccBroadcastRowsFormat := by
  intro dest fs ft s
  and_intros <;> exact congrArg Host.Outcome.next (s.putUpper_some_cons ..)

/-- Settles O18: it holds, row by row, as O17 does. -/
theorem accQIAndPlainRowsFormat : Obligations.AccQIAndPlainRowsFormat := by
  intro dest fs ft s
  and_intros <;> exact congrArg Host.Outcome.next (s.putUpper_some_cons ..)

/-- Settles O19: it holds, row by row; NOP alone prints neither a mask nor an operand. -/
theorem conversionClipAndNopRowsFormat : Obligations.ConversionClipAndNopRowsFormat := by
  intro dest fs ft s
  refine ⟨?itof0, ?ftoi0, ?itof4, ?ftoi4, ?abs, ?itof12, ?ftoi12, ?itof15, ?ftoi15, ?clipw, ?nop⟩
  case nop => exact congrArg Host.Outcome.next (s.putUpper_none_nil "NOP")
  all_goals exact congrArg Host.Outcome.next (s.putUpper_some_cons ..)

/-! ### The lower rows -/

/-- Settles O20: it holds, row by row; the four rows with a memory operand print a component mask, the others none. -/
theorem memoryAndImmediateRowsFormat : Obligations.MemoryAndImmediateRowsFormat := by
  intro dest is it fs ft imm11 imm15 imm24 s
  refine ⟨?lq, ?sq, ?ilw, ?isw, ?iaddiu, ?isubiu, ?fceq, ?fcset, ?fcand, ?fcor⟩
  case lq | sq | ilw | isw => exact congrArg Host.Outcome.next (s.putLower_some_cons ..)
  all_goals exact congrArg Host.Outcome.next (s.putLower_none_cons ..)

/-- Settles O21: it holds, row by row; none of the ten prints a component mask. -/
theorem statusAndFlagRowsFormat : Obligations.StatusAndFlagRowsFormat := by
  intro is it imm12 s
  and_intros <;> exact congrArg Host.Outcome.next (s.putLower_none_cons ..)

/-- Settles O23: it holds, row by row; the five integer operations print no component mask, the others one. -/
theorem integerAndMoveRowsFormat : Obligations.IntegerAndMoveRowsFormat := by
  intro dest id is it fs ft imm5 s
  refine ⟨?iadd, ?isub, ?iaddi, ?iand, ?ior, ?move, ?rnext, ?mfp, ?mr32, ?mfir, ?rget, ?ilwr, ?iswr⟩
  case iadd | isub | iaddi | iand | ior => exact congrArg Host.Outcome.next (s.putLower_none_cons ..)
  all_goals exact congrArg Host.Outcome.next (s.putLower_some_cons ..)

/-- Settles O24: it holds, row by row; the four rows that step an address register print a component mask, the others
none. -/
theorem incrementDivideAndUnitRowsFormat : Obligations.IncrementDivideAndUnitRowsFormat := by
  intro dest is it fs ft fsf ftf s
  refine ⟨?lqi, ?div, ?mtir, ?xtop, ?xgkick, ?sqi, ?sqrt, ?xitop, ?lqd, ?rsqrt, ?rinit, ?sqd, ?rxor⟩
  case lqi | sqi | lqd | sqd => exact congrArg Host.Outcome.next (s.putLower_some_cons ..)
  all_goals exact congrArg Host.Outcome.next (s.putLower_none_cons ..)

/-- Settles O25: it holds, row by row; the two waits print no operand, the EFU rows print P and no component mask. -/
theorem efuAndWaitRowsFormat : Obligations.EfuAndWaitRowsFormat := by
  intro fs fsf s
  refine ⟨?esadd, ?eatanxy, ?esqrt, ?esin, ?ersadd, ?eatanxz, ?ersqrt, ?eatan, ?eleng, ?esum, ?ercpr, ?eexp, ?waitq,
    ?erleng, ?waitp⟩
  case waitq | waitp => exact congrArg Host.Outcome.next (s.putLower_none_nil _)
  all_goals exact congrArg Host.Outcome.next (s.putLower_none_cons ..)

end Sys2Proof.Machine
